-- ==== Sys2Proof/Word.lean ====
section
/-! DEFINITION. The two word types of the machine (R6, R8): 16-bit words and 15-bit addresses. -/

namespace Sys2Proof

/-- A data word, a general register or an instruction word: 16 bits (R6 `WORD`, R8). -/
abbrev Word16 := BitVec 16

/-- A program counter or a data address: 15 bits (R6 `PCW` and `AW`, R8). -/
abbrev Word15 := BitVec 15

end Sys2Proof
end

