-- ==== Sys2Proof/Syntax.lean ====
section
/-! DEFINITION. The instructions: one constructor per row of spec/opcode_table.json, with the fields that every
compute-instruction carries. Every 16-bit word is exactly one of them (R79). -/

namespace Sys2Proof

/-- The dest field, bits 5..3 (R72, R77): any subset of A, D and M. -/
structure Dest where
  dA : Bool
  dD : Bool
  dM : Bool
  deriving DecidableEq, Repr

/-- The jump field, bits 2..0 (R72, R78): jump if negative, if zero, if positive. -/
structure Jump where
  j1 : Bool
  j2 : Bool
  j3 : Bool
  deriving DecidableEq, Repr

/-- The fields of a compute-instruction beside its comp (R80): bits 14..13, which no rule reads (kept so that no
bit of the word is lost; log entry 7), dest and jump. -/
structure CFields where
  ignored : BitVec 2
  dest : Dest
  jump : Jump
  deriving DecidableEq, Repr

/-- dest null, `000` (R77, R140). -/
def Dest.none : Dest := ⟨false, false, false⟩
/-- dest `M`, `001` (R77, R141). -/
def Dest.M : Dest := ⟨false, false, true⟩
/-- dest `D`, `010` (R77, R142). -/
def Dest.D : Dest := ⟨false, true, false⟩
/-- dest `MD`, `011` (R77, R143). -/
def Dest.MD : Dest := ⟨false, true, true⟩
/-- dest `A`, `100` (R77, R144). -/
def Dest.A : Dest := ⟨true, false, false⟩
/-- dest `AM`, `101` (R77, R145). -/
def Dest.AM : Dest := ⟨true, false, true⟩
/-- dest `AD`, `110` (R77, R146). -/
def Dest.AD : Dest := ⟨true, true, false⟩
/-- dest `AMD`, `111` (R77, R147). -/
def Dest.AMD : Dest := ⟨true, true, true⟩

/-- jump null, `000` (R78, R150). -/
def Jump.none : Jump := ⟨false, false, false⟩
/-- `JGT`, `001` (R78, R151). -/
def Jump.JGT : Jump := ⟨false, false, true⟩
/-- `JEQ`, `010` (R78, R152). -/
def Jump.JEQ : Jump := ⟨false, true, false⟩
/-- `JGE`, `011` (R78, R153). -/
def Jump.JGE : Jump := ⟨false, true, true⟩
/-- `JLT`, `100` (R78, R154). -/
def Jump.JLT : Jump := ⟨true, false, false⟩
/-- `JNE`, `101` (R78, R155). -/
def Jump.JNE : Jump := ⟨true, false, true⟩
/-- `JLE`, `110` (R78, R156). -/
def Jump.JLE : Jump := ⟨true, true, false⟩
/-- `JMP`, `111` (R78, R157). -/
def Jump.JMP : Jump := ⟨true, true, true⟩

/-- The instructions.
A constructor `comp…` is a documented comp (R76), `alias…` the same control bits with a = 1 where the function does
not read the second operand (R208), and `alu<c1..c6>` a non-documented control value with a-bit `a` (R209). -/
inductive Instr where
  /-- `@v` (R130). -/
  | aInstr (v : Word15)
  /-- comp `0`: the constant 0 (R180). -/
  | comp0 (f : CFields)
  /-- comp `1`: the constant 1 (R181). -/
  | comp1 (f : CFields)
  /-- comp `-1`: the constant -1 (R182). -/
  | compNeg1 (f : CFields)
  /-- comp `D`: D unchanged (R183). -/
  | compD (f : CFields)
  /-- comp `A`: A unchanged (R184). -/
  | compA (f : CFields)
  /-- comp `M`: M unchanged (R185). -/
  | compM (f : CFields)
  /-- comp `!D`: bitwise NOT of D (R186). -/
  | compNotD (f : CFields)
  /-- comp `!A`: bitwise NOT of A (R187). -/
  | compNotA (f : CFields)
  /-- comp `!M`: bitwise NOT of M (R188). -/
  | compNotM (f : CFields)
  /-- comp `-D`: two's-complement negation of D (R189). -/
  | compNegD (f : CFields)
  /-- comp `-A`: two's-complement negation of A (R190). -/
  | compNegA (f : CFields)
  /-- comp `-M`: two's-complement negation of M (R191). -/
  | compNegM (f : CFields)
  /-- comp `D+1`: D plus one (R192). -/
  | compDInc (f : CFields)
  /-- comp `A+1`: A plus one (R193). -/
  | compAInc (f : CFields)
  /-- comp `M+1`: M plus one (R194). -/
  | compMInc (f : CFields)
  /-- comp `D-1`: D minus one (R195). -/
  | compDDec (f : CFields)
  /-- comp `A-1`: A minus one (R196). -/
  | compADec (f : CFields)
  /-- comp `M-1`: M minus one (R197). -/
  | compMDec (f : CFields)
  /-- comp `D+A`: sum of D and A (R198). -/
  | compDPlusA (f : CFields)
  /-- comp `D+M`: sum of D and M (R199). -/
  | compDPlusM (f : CFields)
  /-- comp `D-A`: D minus A (R200). -/
  | compDMinusA (f : CFields)
  /-- comp `D-M`: D minus M (R201). -/
  | compDMinusM (f : CFields)
  /-- comp `A-D`: A minus D (R202). -/
  | compAMinusD (f : CFields)
  /-- comp `M-D`: M minus D (R203). -/
  | compMMinusD (f : CFields)
  /-- comp `D&A`: bitwise AND of D and A (R204). -/
  | compDAndA (f : CFields)
  /-- comp `D&M`: bitwise AND of D and M (R205). -/
  | compDAndM (f : CFields)
  /-- comp `D|A`: bitwise OR of D and A (R206). -/
  | compDOrA (f : CFields)
  /-- comp `D|M`: bitwise OR of D and M (R207). -/
  | compDOrM (f : CFields)
  /-- comp `0` with a = 1 (R208). -/
  | alias0 (f : CFields)
  /-- comp `1` with a = 1 (R208). -/
  | alias1 (f : CFields)
  /-- comp `-1` with a = 1 (R208). -/
  | aliasNeg1 (f : CFields)
  /-- comp `D` with a = 1 (R208). -/
  | aliasD (f : CFields)
  /-- comp `!D` with a = 1 (R208). -/
  | aliasNotD (f : CFields)
  /-- comp `-D` with a = 1 (R208). -/
  | aliasNegD (f : CFields)
  /-- comp `D+1` with a = 1 (R208). -/
  | aliasDInc (f : CFields)
  /-- comp `D-1` with a = 1 (R208). -/
  | aliasDDec (f : CFields)
  /-- c1..c6 = 000001 (R209). -/
  | alu000001 (a : Bool) (f : CFields)
  /-- c1..c6 = 000011 (R209). -/
  | alu000011 (a : Bool) (f : CFields)
  /-- c1..c6 = 000100 (R209). -/
  | alu000100 (a : Bool) (f : CFields)
  /-- c1..c6 = 000101 (R209). -/
  | alu000101 (a : Bool) (f : CFields)
  /-- c1..c6 = 000110 (R209). -/
  | alu000110 (a : Bool) (f : CFields)
  /-- c1..c6 = 001000 (R209). -/
  | alu001000 (a : Bool) (f : CFields)
  /-- c1..c6 = 001001 (R209). -/
  | alu001001 (a : Bool) (f : CFields)
  /-- c1..c6 = 001010 (R209). -/
  | alu001010 (a : Bool) (f : CFields)
  /-- c1..c6 = 001011 (R209). -/
  | alu001011 (a : Bool) (f : CFields)
  /-- c1..c6 = 010000 (R209). -/
  | alu010000 (a : Bool) (f : CFields)
  /-- c1..c6 = 010001 (R209). -/
  | alu010001 (a : Bool) (f : CFields)
  /-- c1..c6 = 010010 (R209). -/
  | alu010010 (a : Bool) (f : CFields)
  /-- c1..c6 = 010100 (R209). -/
  | alu010100 (a : Bool) (f : CFields)
  /-- c1..c6 = 010110 (R209). -/
  | alu010110 (a : Bool) (f : CFields)
  /-- c1..c6 = 010111 (R209). -/
  | alu010111 (a : Bool) (f : CFields)
  /-- c1..c6 = 011000 (R209). -/
  | alu011000 (a : Bool) (f : CFields)
  /-- c1..c6 = 011001 (R209). -/
  | alu011001 (a : Bool) (f : CFields)
  /-- c1..c6 = 011010 (R209). -/
  | alu011010 (a : Bool) (f : CFields)
  /-- c1..c6 = 011011 (R209). -/
  | alu011011 (a : Bool) (f : CFields)
  /-- c1..c6 = 011100 (R209). -/
  | alu011100 (a : Bool) (f : CFields)
  /-- c1..c6 = 011101 (R209). -/
  | alu011101 (a : Bool) (f : CFields)
  /-- c1..c6 = 011110 (R209). -/
  | alu011110 (a : Bool) (f : CFields)
  /-- c1..c6 = 100000 (R209). -/
  | alu100000 (a : Bool) (f : CFields)
  /-- c1..c6 = 100001 (R209). -/
  | alu100001 (a : Bool) (f : CFields)
  /-- c1..c6 = 100010 (R209). -/
  | alu100010 (a : Bool) (f : CFields)
  /-- c1..c6 = 100011 (R209). -/
  | alu100011 (a : Bool) (f : CFields)
  /-- c1..c6 = 100100 (R209). -/
  | alu100100 (a : Bool) (f : CFields)
  /-- c1..c6 = 100101 (R209). -/
  | alu100101 (a : Bool) (f : CFields)
  /-- c1..c6 = 100110 (R209). -/
  | alu100110 (a : Bool) (f : CFields)
  /-- c1..c6 = 100111 (R209). -/
  | alu100111 (a : Bool) (f : CFields)
  /-- c1..c6 = 101000 (R209). -/
  | alu101000 (a : Bool) (f : CFields)
  /-- c1..c6 = 101001 (R209). -/
  | alu101001 (a : Bool) (f : CFields)
  /-- c1..c6 = 101011 (R209). -/
  | alu101011 (a : Bool) (f : CFields)
  /-- c1..c6 = 101100 (R209). -/
  | alu101100 (a : Bool) (f : CFields)
  /-- c1..c6 = 101101 (R209). -/
  | alu101101 (a : Bool) (f : CFields)
  /-- c1..c6 = 101110 (R209). -/
  | alu101110 (a : Bool) (f : CFields)
  /-- c1..c6 = 101111 (R209). -/
  | alu101111 (a : Bool) (f : CFields)
  /-- c1..c6 = 110100 (R209). -/
  | alu110100 (a : Bool) (f : CFields)
  /-- c1..c6 = 110101 (R209). -/
  | alu110101 (a : Bool) (f : CFields)
  /-- c1..c6 = 110110 (R209). -/
  | alu110110 (a : Bool) (f : CFields)
  /-- c1..c6 = 111000 (R209). -/
  | alu111000 (a : Bool) (f : CFields)
  /-- c1..c6 = 111001 (R209). -/
  | alu111001 (a : Bool) (f : CFields)
  /-- c1..c6 = 111011 (R209). -/
  | alu111011 (a : Bool) (f : CFields)
  /-- c1..c6 = 111100 (R209). -/
  | alu111100 (a : Bool) (f : CFields)
  /-- c1..c6 = 111101 (R209). -/
  | alu111101 (a : Bool) (f : CFields)
  /-- c1..c6 = 111110 (R209). -/
  | alu111110 (a : Bool) (f : CFields)
  deriving DecidableEq, Repr

end Sys2Proof
end

