-- ==== Sys2Proof/Decode.lean ====
section
/-! DEFINITION. The decoder, total on every 16-bit word because no encoding is illegal (R79, R80), so that there is
no word to reject; after it the encoder, from the same tables (R71, R72, R76). -/

namespace Sys2Proof

/-- The two forms of R80's instruction term, before the comp is named. -/
inductive Form where
  /-- `AInstr(v)`. -/
  | a (v : Word15)
  /-- `CInstr(ignored, a, ctl, dest, jump)`. -/
  | c (a : Bool) (ctl : BitVec 6) (f : CFields)
  deriving DecidableEq, Repr

/-- The fields of a word by their bit positions (R71, R72, R80). -/
def decodeForm (w : Word16) : Form :=
  if w.getLsbD 15 then
    .c (w.getLsbD 12) (w.extractLsb' 6 6)
      { ignored := w.extractLsb' 13 2
        dest := { dA := w.getLsbD 5, dD := w.getLsbD 4, dM := w.getLsbD 3 }
        jump := { j1 := w.getLsbD 2, j2 := w.getLsbD 1, j3 := w.getLsbD 0 } }
  else .a (w.extractLsb' 0 15)

/-- The row of the opcode table for a comp: c1 to c6 and then the a-bit, as R76, R208 and R209 list them. -/
def compRow (c1 c2 c3 c4 c5 c6 a : Bool) (f : CFields) : Instr :=
  match c1, c2, c3, c4, c5, c6, a with
  | true, false, true, false, true, false, false => .comp0 f
  | true, true, true, true, true, true, false => .comp1 f
  | true, true, true, false, true, false, false => .compNeg1 f
  | false, false, true, true, false, false, false => .compD f
  | true, true, false, false, false, false, false => .compA f
  | true, true, false, false, false, false, true => .compM f
  | false, false, true, true, false, true, false => .compNotD f
  | true, true, false, false, false, true, false => .compNotA f
  | true, true, false, false, false, true, true => .compNotM f
  | false, false, true, true, true, true, false => .compNegD f
  | true, true, false, false, true, true, false => .compNegA f
  | true, true, false, false, true, true, true => .compNegM f
  | false, true, true, true, true, true, false => .compDInc f
  | true, true, false, true, true, true, false => .compAInc f
  | true, true, false, true, true, true, true => .compMInc f
  | false, false, true, true, true, false, false => .compDDec f
  | true, true, false, false, true, false, false => .compADec f
  | true, true, false, false, true, false, true => .compMDec f
  | false, false, false, false, true, false, false => .compDPlusA f
  | false, false, false, false, true, false, true => .compDPlusM f
  | false, true, false, false, true, true, false => .compDMinusA f
  | false, true, false, false, true, true, true => .compDMinusM f
  | false, false, false, true, true, true, false => .compAMinusD f
  | false, false, false, true, true, true, true => .compMMinusD f
  | false, false, false, false, false, false, false => .compDAndA f
  | false, false, false, false, false, false, true => .compDAndM f
  | false, true, false, true, false, true, false => .compDOrA f
  | false, true, false, true, false, true, true => .compDOrM f
  | true, false, true, false, true, false, true => .alias0 f
  | true, true, true, true, true, true, true => .alias1 f
  | true, true, true, false, true, false, true => .aliasNeg1 f
  | false, false, true, true, false, false, true => .aliasD f
  | false, false, true, true, false, true, true => .aliasNotD f
  | false, false, true, true, true, true, true => .aliasNegD f
  | false, true, true, true, true, true, true => .aliasDInc f
  | false, false, true, true, true, false, true => .aliasDDec f
  | false, false, false, false, false, true, a => .alu000001 a f
  | false, false, false, false, true, true, a => .alu000011 a f
  | false, false, false, true, false, false, a => .alu000100 a f
  | false, false, false, true, false, true, a => .alu000101 a f
  | false, false, false, true, true, false, a => .alu000110 a f
  | false, false, true, false, false, false, a => .alu001000 a f
  | false, false, true, false, false, true, a => .alu001001 a f
  | false, false, true, false, true, false, a => .alu001010 a f
  | false, false, true, false, true, true, a => .alu001011 a f
  | false, true, false, false, false, false, a => .alu010000 a f
  | false, true, false, false, false, true, a => .alu010001 a f
  | false, true, false, false, true, false, a => .alu010010 a f
  | false, true, false, true, false, false, a => .alu010100 a f
  | false, true, false, true, true, false, a => .alu010110 a f
  | false, true, false, true, true, true, a => .alu010111 a f
  | false, true, true, false, false, false, a => .alu011000 a f
  | false, true, true, false, false, true, a => .alu011001 a f
  | false, true, true, false, true, false, a => .alu011010 a f
  | false, true, true, false, true, true, a => .alu011011 a f
  | false, true, true, true, false, false, a => .alu011100 a f
  | false, true, true, true, false, true, a => .alu011101 a f
  | false, true, true, true, true, false, a => .alu011110 a f
  | true, false, false, false, false, false, a => .alu100000 a f
  | true, false, false, false, false, true, a => .alu100001 a f
  | true, false, false, false, true, false, a => .alu100010 a f
  | true, false, false, false, true, true, a => .alu100011 a f
  | true, false, false, true, false, false, a => .alu100100 a f
  | true, false, false, true, false, true, a => .alu100101 a f
  | true, false, false, true, true, false, a => .alu100110 a f
  | true, false, false, true, true, true, a => .alu100111 a f
  | true, false, true, false, false, false, a => .alu101000 a f
  | true, false, true, false, false, true, a => .alu101001 a f
  | true, false, true, false, true, true, a => .alu101011 a f
  | true, false, true, true, false, false, a => .alu101100 a f
  | true, false, true, true, false, true, a => .alu101101 a f
  | true, false, true, true, true, false, a => .alu101110 a f
  | true, false, true, true, true, true, a => .alu101111 a f
  | true, true, false, true, false, false, a => .alu110100 a f
  | true, true, false, true, false, true, a => .alu110101 a f
  | true, true, false, true, true, false, a => .alu110110 a f
  | true, true, true, false, false, false, a => .alu111000 a f
  | true, true, true, false, false, true, a => .alu111001 a f
  | true, true, true, false, true, true, a => .alu111011 a f
  | true, true, true, true, false, false, a => .alu111100 a f
  | true, true, true, true, false, true, a => .alu111101 a f
  | true, true, true, true, true, false, a => .alu111110 a f

/-- The instruction of a form. -/
def instrOfForm : Form → Instr
  | .a v => .aInstr v
  | .c a c f =>
    compRow (c.getLsbD 5) (c.getLsbD 4) (c.getLsbD 3) (c.getLsbD 2) (c.getLsbD 1) (c.getLsbD 0) a f

/-- The decoder (R80): the high bit selects the form, the comp field the row; every word has an instruction. -/
def decode (w : Word16) : Instr := instrOfForm (decodeForm w)

/-- The encoding table (R71, R76, R208, R209): the a-bit and c1..c6 of each instruction, beside its fields. -/
def formOf : Instr → Form
  | .aInstr v => .a v
  | .comp0 f => .c false 0b101010#6 f
  | .comp1 f => .c false 0b111111#6 f
  | .compNeg1 f => .c false 0b111010#6 f
  | .compD f => .c false 0b001100#6 f
  | .compA f => .c false 0b110000#6 f
  | .compM f => .c true 0b110000#6 f
  | .compNotD f => .c false 0b001101#6 f
  | .compNotA f => .c false 0b110001#6 f
  | .compNotM f => .c true 0b110001#6 f
  | .compNegD f => .c false 0b001111#6 f
  | .compNegA f => .c false 0b110011#6 f
  | .compNegM f => .c true 0b110011#6 f
  | .compDInc f => .c false 0b011111#6 f
  | .compAInc f => .c false 0b110111#6 f
  | .compMInc f => .c true 0b110111#6 f
  | .compDDec f => .c false 0b001110#6 f
  | .compADec f => .c false 0b110010#6 f
  | .compMDec f => .c true 0b110010#6 f
  | .compDPlusA f => .c false 0b000010#6 f
  | .compDPlusM f => .c true 0b000010#6 f
  | .compDMinusA f => .c false 0b010011#6 f
  | .compDMinusM f => .c true 0b010011#6 f
  | .compAMinusD f => .c false 0b000111#6 f
  | .compMMinusD f => .c true 0b000111#6 f
  | .compDAndA f => .c false 0b000000#6 f
  | .compDAndM f => .c true 0b000000#6 f
  | .compDOrA f => .c false 0b010101#6 f
  | .compDOrM f => .c true 0b010101#6 f
  | .alias0 f => .c true 0b101010#6 f
  | .alias1 f => .c true 0b111111#6 f
  | .aliasNeg1 f => .c true 0b111010#6 f
  | .aliasD f => .c true 0b001100#6 f
  | .aliasNotD f => .c true 0b001101#6 f
  | .aliasNegD f => .c true 0b001111#6 f
  | .aliasDInc f => .c true 0b011111#6 f
  | .aliasDDec f => .c true 0b001110#6 f
  | .alu000001 a f => .c a 0b000001#6 f
  | .alu000011 a f => .c a 0b000011#6 f
  | .alu000100 a f => .c a 0b000100#6 f
  | .alu000101 a f => .c a 0b000101#6 f
  | .alu000110 a f => .c a 0b000110#6 f
  | .alu001000 a f => .c a 0b001000#6 f
  | .alu001001 a f => .c a 0b001001#6 f
  | .alu001010 a f => .c a 0b001010#6 f
  | .alu001011 a f => .c a 0b001011#6 f
  | .alu010000 a f => .c a 0b010000#6 f
  | .alu010001 a f => .c a 0b010001#6 f
  | .alu010010 a f => .c a 0b010010#6 f
  | .alu010100 a f => .c a 0b010100#6 f
  | .alu010110 a f => .c a 0b010110#6 f
  | .alu010111 a f => .c a 0b010111#6 f
  | .alu011000 a f => .c a 0b011000#6 f
  | .alu011001 a f => .c a 0b011001#6 f
  | .alu011010 a f => .c a 0b011010#6 f
  | .alu011011 a f => .c a 0b011011#6 f
  | .alu011100 a f => .c a 0b011100#6 f
  | .alu011101 a f => .c a 0b011101#6 f
  | .alu011110 a f => .c a 0b011110#6 f
  | .alu100000 a f => .c a 0b100000#6 f
  | .alu100001 a f => .c a 0b100001#6 f
  | .alu100010 a f => .c a 0b100010#6 f
  | .alu100011 a f => .c a 0b100011#6 f
  | .alu100100 a f => .c a 0b100100#6 f
  | .alu100101 a f => .c a 0b100101#6 f
  | .alu100110 a f => .c a 0b100110#6 f
  | .alu100111 a f => .c a 0b100111#6 f
  | .alu101000 a f => .c a 0b101000#6 f
  | .alu101001 a f => .c a 0b101001#6 f
  | .alu101011 a f => .c a 0b101011#6 f
  | .alu101100 a f => .c a 0b101100#6 f
  | .alu101101 a f => .c a 0b101101#6 f
  | .alu101110 a f => .c a 0b101110#6 f
  | .alu101111 a f => .c a 0b101111#6 f
  | .alu110100 a f => .c a 0b110100#6 f
  | .alu110101 a f => .c a 0b110101#6 f
  | .alu110110 a f => .c a 0b110110#6 f
  | .alu111000 a f => .c a 0b111000#6 f
  | .alu111001 a f => .c a 0b111001#6 f
  | .alu111011 a f => .c a 0b111011#6 f
  | .alu111100 a f => .c a 0b111100#6 f
  | .alu111101 a f => .c a 0b111101#6 f
  | .alu111110 a f => .c a 0b111110#6 f

/-- A field put into a word with its lowest bit at position `i`. -/
def place {n : Nat} (i : Nat) (field : BitVec n) : Word16 := field.setWidth 16 <<< i

/-- The word of a form: `0vvvvvvvvvvvvvvv` (R71) or `1xxaccccccdddjjj` (R72). -/
def encodeForm : Form → Word16
  | .a v => place 0 v
  | .c a c f =>
    place 15 1#1 ||| place 13 f.ignored ||| place 12 (BitVec.ofBool a) ||| place 6 c |||
      place 5 (BitVec.ofBool f.dest.dA) ||| place 4 (BitVec.ofBool f.dest.dD) |||
      place 3 (BitVec.ofBool f.dest.dM) ||| place 2 (BitVec.ofBool f.jump.j1) |||
      place 1 (BitVec.ofBool f.jump.j2) ||| place 0 (BitVec.ofBool f.jump.j3)

/-- The encoder: the one word of an instruction (R70). -/
def encode (i : Instr) : Word16 := encodeForm (formOf i)

/-- The word whose bits are numbered as the opcode table numbers them: one 16-bit word, `nbits` of it given and the
rest 0. -/
def tableWord (nbits w : Nat) : Word16 := BitVec.ofNat 16 (w % 2 ^ nbits)

/-- The instruction the decoder reads from a word given as the opcode table numbers its bits; no word is refused. -/
def decodeTableWord (nbits w : Nat) : Option Instr := some (decode (tableWord nbits w))

end Sys2Proof
end

