-- ==== Sys2Proof/Config.lean ====
section
/-! DEFINITION. What an implementation fixes: the shape of the ALU parameter (R170), the number of levels of
the data memory (R6), and what a memory word that a state does not list reads as. -/

namespace Sys2Proof

/-- The ALU's three outputs (R170): the result and the zero and negative flags. -/
structure AluOut where
  out : Word16
  zr : Bool
  ng : Bool
  deriving DecidableEq, Repr

/-- The configuration parameter `ALU(x, y, c)` of R170: two operands and six control bits.
The datapath is written over any such function; the one `exec` uses is `Machine.alu`. -/
abbrev AluFn := Word16 → Word16 → BitVec 6 → AluOut

/-- `L` of the CPU's data memory: five levels of 8-way fan-out, 32768 words (R6, R54; D4). -/
abbrev Config.memoryLevels : Nat := 5

/-- Words in the data space and in the instruction space: every 15-bit address names one (R31). -/
def Config.memoryWords : Nat := 32768

/-- DESIGN CHOICE, log entries 2 and 5 (unsafe for claims about `State.reset` alone): the value of a memory word
that a state's list does not name.
The spec leaves power-on memory arbitrary (R242); any contents are some state's list. -/
def Config.unlistedWord : Word16 := 0#16

end Sys2Proof
end

