-- ==== Sys2Proof/Machine/Gates.lean ====
section
/-! DEFINITION. The combinational primitives by their truth functions (R40), the two fan-out primitives
(R41, R42), and the clocked storage primitive (R43). -/

namespace Sys2Proof.Machine

/-- `Not(a) = !a` (R40). -/
def gateNot (a : Bool) : Bool := !a

/-- `And(a, b)` (R40). -/
def gateAnd (a b : Bool) : Bool := a && b

/-- `Or(a, b)` (R40). -/
def gateOr (a b : Bool) : Bool := a || b

/-- `Mux(a, b, sel) = (sel = 0) ? a : b` (R40). -/
def gateMux (a b sel : Bool) : Bool := if sel then b else a

/-- `DMux(in, sel) = (sel = 0) ? (in, 0) : (0, in)` (R40). -/
def gateDMux (inp sel : Bool) : Bool × Bool := if sel then (false, inp) else (inp, false)

/-- A 1-bit function applied to each of the 16 bit positions independently (R40). -/
def bitwise1 (f : Bool → Bool) (a : Word16) : Word16 :=
  BitVec.ofFnLE fun i : Fin 16 => f (a.getLsbD i)

/-- A 1-bit function of two inputs applied to each of the 16 bit positions independently (R40). -/
def bitwise2 (f : Bool → Bool → Bool) (a b : Word16) : Word16 :=
  BitVec.ofFnLE fun i : Fin 16 => f (a.getLsbD i) (b.getLsbD i)

/-- `Not16` (R40). -/
def gateNot16 (a : Word16) : Word16 := bitwise1 gateNot a

/-- `And16` (R40). -/
def gateAnd16 (a b : Word16) : Word16 := bitwise2 gateAnd a b

/-- `Or16` (R40). -/
def gateOr16 (a b : Word16) : Word16 := bitwise2 gateOr a b

/-- `Mux16`, with a single shared `sel` (R40). -/
def gateMux16 (a b : Word16) (sel : Bool) : Word16 := bitwise2 (fun p q => gateMux p q sel) a b

/-- `Mux8Way16`: the input whose index is the unsigned value of `sel` (R41; D11). -/
def mux8Way16 (inputs : Fin 8 → Word16) (sel : BitVec 3) : Word16 := inputs sel.toFin

/-- `DMux8Way`: `out_i = in` if `i = sel`, and 0 otherwise (R42; D11). -/
def dMux8Way (inp : Bool) (sel : BitVec 3) : Fin 8 → Bool :=
  fun i => if i = sel.toFin then inp else false

/-- The clock edge of the storage primitive `Register`: `r <- in` if `load = 1`, unchanged otherwise (R43).
Its `out` in every cycle is the held value `r` itself.
The width is 16 for A, D and a memory cell, 15 for PC and 1 for the variant `Bit`. -/
def registerEdge {w : Nat} (r inp : BitVec w) (load : Bool) : BitVec w :=
  if load then inp else r

end Sys2Proof.Machine
end

