-- ==== Sys2Proof/Machine/State.lean ====
section
/-! DEFINITION. The state of the machine as plain data (R28), the state after reset, and the reasons a step could
stop: the hardware has none (R113, R220). -/

namespace Sys2Proof.Machine

/-- A memory of 16-bit words, as (word address, word) pairs in one canonical form (`Memory.wf`).
The smallest unit of access is the whole word and there are no bytes (R55), so a cell holds a word; log entry 1. -/
abbrev Memory := List (Nat × Word16)

/-- The faults of the machine: there are none.
The datapath is a pure total function of its inputs (R220), so no constructor exists and nobody raises one;
safe, log entry 15. -/
inductive Fault
  deriving DecidableEq, Repr

/-- The refusals of the machine. -/
inductive Refusal where
  /-- An instruction whose arm of `exec` has no meaning yet.
  Raised by no arm: every word of ROM executes (R113); it would be safe, since the machine only stops; log entry 15. -/
  | notModelled (mnemonic : String)
  deriving DecidableEq, Repr

/-- The complete clocked state `(A, D, PC, RAM)` with its parameters `ROM` and the reset sequence (R28).
Nothing else is state: no flags, no control registers, no hidden state (R24, R25, R32). -/
structure State where
  /-- The A register (R20). -/
  regA : Word16
  /-- The D register (R21). -/
  regD : Word16
  /-- The program counter (R23). -/
  pc : Word15
  /-- Data memory (R26, R54). -/
  ram : Memory
  /-- Instruction memory, read only (R27). -/
  rom : Memory
  /-- The `reset` input of the coming cycles, this cycle's bit first; past the end the pin is 0.
  The model's own holder of the launch parameter `reset : Nat -> Bit` (R28, R114; D12): log entry 4. -/
  resetIn : List Bool
  deriving DecidableEq, Repr

/-- The machine after reset: PC = 0 (R240), and no program loaded (R233).
A, D and RAM are unspecified by the spec (R242, R243); 0 is the model's DESIGN CHOICE, log entries 2, 3 and 14.
The reset pin is released and stays so: log entry 4. -/
def State.reset : State :=
  { regA := 0#16, regD := 0#16, pc := 0#15, ram := [], rom := [], resetIn := [] }

end Sys2Proof.Machine
end

