-- ==== Sys2Proof/Machine/Ops.lean ====
section
/-! DEFINITION. The named operations over memory and registers: reading and writing a memory in its canonical
form, fetching, the address in A, the next program counter, the clock edge, and what the host does to the machine.
There is no exception to take and none to return from (R220, R223, R224), so no operation for either exists. -/

namespace Sys2Proof.Machine

/-- The cells of a list rise strictly in address from `lo` on, stay inside the address space, and none holds what
an unlisted address reads as. -/
def Memory.wfFrom : Nat → Memory → Bool
  | _, [] => true
  | lo, cell :: rest =>
    decide (lo ≤ cell.1) && decide (cell.1 < Config.memoryWords) && (cell.2 != Config.unlistedWord) &&
      Memory.wfFrom (cell.1 + 1) rest

/-- The canonical form of a memory: two memories in it that read alike are the same list. -/
def Memory.wf (m : Memory) : Bool := Memory.wfFrom 0 m

/-- The word a memory holds at a flat address: the first cell with that address, else the unlisted word. -/
def Memory.lookup : Memory → Nat → Word16
  | [], _ => Config.unlistedWord
  | cell :: rest, k => if cell.1 = k then cell.2 else Memory.lookup rest k

/-- `MemRead(addr, 1)`, and `ROM[pc]`: the whole word at a word address; it always succeeds and has no side
effect (R50, R53, R55). -/
def Memory.read (m : Memory) (a : Word15) : Word16 := Memory.lookup m a.toNat

/-- The memory without the cells of one address. -/
def Memory.erase (m : Memory) (k : Nat) : Memory := m.filter fun cell => cell.1 != k

/-- The memory with a cell put before the first cell of a higher address. -/
def Memory.insert : Memory → Nat → Word16 → Memory
  | [], k, v => [(k, v)]
  | cell :: rest, k, v =>
    if k < cell.1 then (k, v) :: cell :: rest else cell :: Memory.insert rest k v

/-- `cell[addr] <- v`, every other cell keeping its value (R51).
It keeps the canonical form: writing the unlisted word removes the cell. -/
def Memory.write (m : Memory) (a : Word15) (v : Word16) : Memory :=
  if v = Config.unlistedWord then Memory.erase m a.toNat
  else Memory.insert (Memory.erase m a.toNat) a.toNat v

/-- The low 15 bits `v[14:0]` of a word (R7). -/
def low15 (v : Word16) : Word15 := v.extractLsb' 0 15

/-- `zext_16` of a 15-bit literal (R8, R73). -/
def zext16 (v : Word15) : Word16 := v.setWidth 16

/-- `addressM = A[14:0]`, with A as of the last edge (R29, R110). -/
def addressM (s : State) : Word15 := low15 s.regA

/-- `inM`, the operand `M`: the data word at `A[14:0]` (R30, R50). -/
def readM (s : State) : Word16 := Memory.read s.ram (addressM s)

/-- `ROM[PC]`, the instruction word of this cycle (R27, R30). -/
def fetch (s : State) : Word16 := Memory.read s.rom s.pc

/-- The `reset` input of this cycle (R25, R240; log entry 4). -/
def resetPin (s : State) : Bool := s.resetIn.headD false

/-- `PC_next` (R108): 0 on reset, else `A[14:0]` of the last edge if the jump is taken, else `PC + 1` modulo
2^15 (D6, D7). -/
def nextPc (reset jump : Bool) (oldA : Word16) (pc : Word15) : Word15 :=
  if reset then 0#15 else if jump then low15 oldA else pc + 1#15

/-- The writes a cycle schedules for its clock edge (R9, R100): load signal and input of A and of D, the memory
write of R109, and whether the jump is taken. -/
structure Writes where
  loadA : Bool
  inA : Word16
  loadD : Bool
  inD : Word16
  writeM : Bool
  outM : Word16
  jump : Bool
  deriving DecidableEq, Repr

/-- The clock edge that ends a cycle (R100): A, D, PC and the memory word commit together, each from the state as
of the last edge; ROM never changes (R60); the reset input moves on to the next cycle's bit (R114). -/
def clockEdge (s : State) (w : Writes) : State :=
  { regA := registerEdge s.regA w.inA w.loadA
    regD := registerEdge s.regD w.inD w.loadD
    pc := nextPc (resetPin s) w.jump s.regA s.pc
    ram := if w.writeM then Memory.write s.ram (addressM s) w.outM else s.ram
    rom := s.rom
    resetIn := s.resetIn.tail }

/-- The contents of `ROM` after the host has put a program at addresses 0, 1, … (R233); words beyond the address
space are dropped, because no address names them. -/
def romOf (words : List Word16) : Memory :=
  (words.take Config.memoryWords).zipIdx.foldl
    (fun m p => Memory.write m (BitVec.ofNat 15 p.2) p.1) []

/-- What the host does before a run (R233, R244): it fixes the contents of `ROM`. -/
def loadProgram (s : State) (words : List Word16) : State := { s with rom := romOf words }

/-- What the host drives on the `reset` pin in the coming cycles, this cycle first (R233). -/
def driveReset (s : State) (bits : List Bool) : State := { s with resetIn := bits }

end Sys2Proof.Machine
end

