-- ==== Sys2Proof/Machine/AInstruction.lean ====
section
/-! DEFINITION. The address-instruction (R130). -/

namespace Sys2Proof.Machine

/-- `@v` (R130): A is loaded with the zero-extended literal; D and memory keep their values; no jump. -/
def execAInstr (v : Word15) (s : State) : Host.Outcome State Fault Refusal :=
  .next (clockEdge s
    { loadA := true, inA := zext16 v, loadD := false, inD := s.regD, writeM := false,
      outM := s.regD, jump := false })

end Sys2Proof.Machine
end

