-- ==== Sys2Proof/Machine/Flags.lean ====
section
/-! DEFINITION. Every flag computation: the ALU's two status outputs (R172), the signal `pos`, and the jump
condition (R107). No flag is stored (R24). -/

namespace Sys2Proof.Machine

/-- `zr = 1` iff `out = 0x0000` (R172). -/
def zeroFlag (out : Word16) : Bool := out == 0#16

/-- `ng = out[15]` (R172). -/
def negativeFlag (out : Word16) : Bool := out.getLsbD 15

/-- `pos = !zr and !ng`, from the two flags exactly as R107 writes it. -/
def positiveSignal (zr ng : Bool) : Bool := !zr && !ng

/-- `(j1 and ng) or (j2 and zr) or (j3 and pos)` (R107, R160). -/
def jumpCondition (j : Jump) (zr ng : Bool) : Bool :=
  (j.j1 && ng) || (j.j2 && zr) || (j.j3 && positiveSignal zr ng)

end Sys2Proof.Machine
end

