-- ==== Sys2Proof/Machine/Operands.lean ====
section
/-! DEFINITION. The operands of a compute-instruction (R74, R104) and the default ALU function (R171). -/

namespace Sys2Proof.Machine

/-- The first operand `x`: always D (R104). -/
def operandX (s : State) : Word16 := s.regD

/-- The second operand `y = (a = 1) ? M : A` (R74, R104). -/
def operandY (s : State) (a : Bool) : Word16 := if a then readM s else s.regA

/-- The result of the default ALU (R171): `c = (zx, nx, zy, ny, f, no)`, `zx` the highest bit (R75). -/
def aluResult (x y : Word16) (c : BitVec 6) : Word16 :=
  let zx := c.getLsbD 5
  let nx := c.getLsbD 4
  let zy := c.getLsbD 3
  let ny := c.getLsbD 2
  let f := c.getLsbD 1
  let no := c.getLsbD 0
  let x1 := if zx then 0#16 else x
  let x2 := if nx then ~~~x1 else x1
  let y1 := if zy then 0#16 else y
  let y2 := if ny then ~~~y1 else y1
  let o1 := if f then x2 + y2 else x2 &&& y2
  if no then ~~~o1 else o1

/-- The ALU of the machine: the default of R171 with the flags of R172.
UNVERIFIED, log entry 6 (unsafe if the repository's ALU differs): the spec supplies it from general knowledge (D1, D2). -/
def alu : AluFn := fun x y c =>
  let out := aluResult x y c
  { out := out, zr := zeroFlag out, ng := negativeFlag out }

end Sys2Proof.Machine
end

