-- ==== Sys2Proof/Machine/Compute.lean ====
section
/-! DEFINITION. The shared operation of every compute-instruction (R160). -/

namespace Sys2Proof.Machine

/-- The writes that a compute-instruction schedules (R160), over any ALU (R170): the one result goes to each
chosen destination, and the flags feed this instruction's jump only. -/
def computeWrites (f : AluFn) (x y : Word16) (c : BitVec 6) (d : Dest) (j : Jump) : Writes :=
  let r := f x y c
  { loadA := d.dA, inA := r.out
    loadD := d.dD, inD := r.out
    writeM := d.dM, outM := r.out
    jump := jumpCondition j r.zr r.ng }

/-- `dest=comp;jump` (R160): a-bit `a`, ALU control bits `c`, and the destination and jump fields.
Bits 14..13 (`ignored`) are read by nothing (R79). -/
def compute (a : Bool) (c : BitVec 6) (f : CFields) (s : State) : State :=
  clockEdge s (computeWrites alu (operandX s) (operandY s a) c f.dest f.jump)

end Sys2Proof.Machine
end

