-- ==== Sys2Proof/Machine/AluCodes.lean ====
section
/-! DEFINITION. The 46 non-documented ALU control values (R209), with a = 0 or a = 1. -/

namespace Sys2Proof.Machine

/-- c1..c6 = 000001 (R209). -/
def execAlu000001 (a : Bool) (f : CFields) (s : State) : Host.Outcome State Fault Refusal :=
  .next (compute a 0b000001#6 f s)

/-- c1..c6 = 000011 (R209). -/
def execAlu000011 (a : Bool) (f : CFields) (s : State) : Host.Outcome State Fault Refusal :=
  .next (compute a 0b000011#6 f s)

/-- c1..c6 = 000100 (R209). -/
def execAlu000100 (a : Bool) (f : CFields) (s : State) : Host.Outcome State Fault Refusal :=
  .next (compute a 0b000100#6 f s)

/-- c1..c6 = 000101 (R209). -/
def execAlu000101 (a : Bool) (f : CFields) (s : State) : Host.Outcome State Fault Refusal :=
  .next (compute a 0b000101#6 f s)

/-- c1..c6 = 000110 (R209). -/
def execAlu000110 (a : Bool) (f : CFields) (s : State) : Host.Outcome State Fault Refusal :=
  .next (compute a 0b000110#6 f s)

/-- c1..c6 = 001000 (R209). -/
def execAlu001000 (a : Bool) (f : CFields) (s : State) : Host.Outcome State Fault Refusal :=
  .next (compute a 0b001000#6 f s)

/-- c1..c6 = 001001 (R209). -/
def execAlu001001 (a : Bool) (f : CFields) (s : State) : Host.Outcome State Fault Refusal :=
  .next (compute a 0b001001#6 f s)

/-- c1..c6 = 001010 (R209). -/
def execAlu001010 (a : Bool) (f : CFields) (s : State) : Host.Outcome State Fault Refusal :=
  .next (compute a 0b001010#6 f s)

/-- c1..c6 = 001011 (R209). -/
def execAlu001011 (a : Bool) (f : CFields) (s : State) : Host.Outcome State Fault Refusal :=
  .next (compute a 0b001011#6 f s)

/-- c1..c6 = 010000 (R209). -/
def execAlu010000 (a : Bool) (f : CFields) (s : State) : Host.Outcome State Fault Refusal :=
  .next (compute a 0b010000#6 f s)

/-- c1..c6 = 010001 (R209). -/
def execAlu010001 (a : Bool) (f : CFields) (s : State) : Host.Outcome State Fault Refusal :=
  .next (compute a 0b010001#6 f s)

/-- c1..c6 = 010010 (R209). -/
def execAlu010010 (a : Bool) (f : CFields) (s : State) : Host.Outcome State Fault Refusal :=
  .next (compute a 0b010010#6 f s)

/-- c1..c6 = 010100 (R209). -/
def execAlu010100 (a : Bool) (f : CFields) (s : State) : Host.Outcome State Fault Refusal :=
  .next (compute a 0b010100#6 f s)

/-- c1..c6 = 010110 (R209). -/
def execAlu010110 (a : Bool) (f : CFields) (s : State) : Host.Outcome State Fault Refusal :=
  .next (compute a 0b010110#6 f s)

/-- c1..c6 = 010111 (R209). -/
def execAlu010111 (a : Bool) (f : CFields) (s : State) : Host.Outcome State Fault Refusal :=
  .next (compute a 0b010111#6 f s)

/-- c1..c6 = 011000 (R209). -/
def execAlu011000 (a : Bool) (f : CFields) (s : State) : Host.Outcome State Fault Refusal :=
  .next (compute a 0b011000#6 f s)

/-- c1..c6 = 011001 (R209). -/
def execAlu011001 (a : Bool) (f : CFields) (s : State) : Host.Outcome State Fault Refusal :=
  .next (compute a 0b011001#6 f s)

/-- c1..c6 = 011010 (R209). -/
def execAlu011010 (a : Bool) (f : CFields) (s : State) : Host.Outcome State Fault Refusal :=
  .next (compute a 0b011010#6 f s)

/-- c1..c6 = 011011 (R209). -/
def execAlu011011 (a : Bool) (f : CFields) (s : State) : Host.Outcome State Fault Refusal :=
  .next (compute a 0b011011#6 f s)

/-- c1..c6 = 011100 (R209). -/
def execAlu011100 (a : Bool) (f : CFields) (s : State) : Host.Outcome State Fault Refusal :=
  .next (compute a 0b011100#6 f s)

/-- c1..c6 = 011101 (R209). -/
def execAlu011101 (a : Bool) (f : CFields) (s : State) : Host.Outcome State Fault Refusal :=
  .next (compute a 0b011101#6 f s)

/-- c1..c6 = 011110 (R209). -/
def execAlu011110 (a : Bool) (f : CFields) (s : State) : Host.Outcome State Fault Refusal :=
  .next (compute a 0b011110#6 f s)

/-- c1..c6 = 100000 (R209). -/
def execAlu100000 (a : Bool) (f : CFields) (s : State) : Host.Outcome State Fault Refusal :=
  .next (compute a 0b100000#6 f s)

/-- c1..c6 = 100001 (R209). -/
def execAlu100001 (a : Bool) (f : CFields) (s : State) : Host.Outcome State Fault Refusal :=
  .next (compute a 0b100001#6 f s)

/-- c1..c6 = 100010 (R209). -/
def execAlu100010 (a : Bool) (f : CFields) (s : State) : Host.Outcome State Fault Refusal :=
  .next (compute a 0b100010#6 f s)

/-- c1..c6 = 100011 (R209). -/
def execAlu100011 (a : Bool) (f : CFields) (s : State) : Host.Outcome State Fault Refusal :=
  .next (compute a 0b100011#6 f s)

/-- c1..c6 = 100100 (R209). -/
def execAlu100100 (a : Bool) (f : CFields) (s : State) : Host.Outcome State Fault Refusal :=
  .next (compute a 0b100100#6 f s)

/-- c1..c6 = 100101 (R209). -/
def execAlu100101 (a : Bool) (f : CFields) (s : State) : Host.Outcome State Fault Refusal :=
  .next (compute a 0b100101#6 f s)

/-- c1..c6 = 100110 (R209). -/
def execAlu100110 (a : Bool) (f : CFields) (s : State) : Host.Outcome State Fault Refusal :=
  .next (compute a 0b100110#6 f s)

/-- c1..c6 = 100111 (R209). -/
def execAlu100111 (a : Bool) (f : CFields) (s : State) : Host.Outcome State Fault Refusal :=
  .next (compute a 0b100111#6 f s)

/-- c1..c6 = 101000 (R209). -/
def execAlu101000 (a : Bool) (f : CFields) (s : State) : Host.Outcome State Fault Refusal :=
  .next (compute a 0b101000#6 f s)

/-- c1..c6 = 101001 (R209). -/
def execAlu101001 (a : Bool) (f : CFields) (s : State) : Host.Outcome State Fault Refusal :=
  .next (compute a 0b101001#6 f s)

/-- c1..c6 = 101011 (R209). -/
def execAlu101011 (a : Bool) (f : CFields) (s : State) : Host.Outcome State Fault Refusal :=
  .next (compute a 0b101011#6 f s)

/-- c1..c6 = 101100 (R209). -/
def execAlu101100 (a : Bool) (f : CFields) (s : State) : Host.Outcome State Fault Refusal :=
  .next (compute a 0b101100#6 f s)

/-- c1..c6 = 101101 (R209). -/
def execAlu101101 (a : Bool) (f : CFields) (s : State) : Host.Outcome State Fault Refusal :=
  .next (compute a 0b101101#6 f s)

/-- c1..c6 = 101110 (R209). -/
def execAlu101110 (a : Bool) (f : CFields) (s : State) : Host.Outcome State Fault Refusal :=
  .next (compute a 0b101110#6 f s)

/-- c1..c6 = 101111 (R209). -/
def execAlu101111 (a : Bool) (f : CFields) (s : State) : Host.Outcome State Fault Refusal :=
  .next (compute a 0b101111#6 f s)

/-- c1..c6 = 110100 (R209). -/
def execAlu110100 (a : Bool) (f : CFields) (s : State) : Host.Outcome State Fault Refusal :=
  .next (compute a 0b110100#6 f s)

/-- c1..c6 = 110101 (R209). -/
def execAlu110101 (a : Bool) (f : CFields) (s : State) : Host.Outcome State Fault Refusal :=
  .next (compute a 0b110101#6 f s)

/-- c1..c6 = 110110 (R209). -/
def execAlu110110 (a : Bool) (f : CFields) (s : State) : Host.Outcome State Fault Refusal :=
  .next (compute a 0b110110#6 f s)

/-- c1..c6 = 111000 (R209). -/
def execAlu111000 (a : Bool) (f : CFields) (s : State) : Host.Outcome State Fault Refusal :=
  .next (compute a 0b111000#6 f s)

/-- c1..c6 = 111001 (R209). -/
def execAlu111001 (a : Bool) (f : CFields) (s : State) : Host.Outcome State Fault Refusal :=
  .next (compute a 0b111001#6 f s)

/-- c1..c6 = 111011 (R209). -/
def execAlu111011 (a : Bool) (f : CFields) (s : State) : Host.Outcome State Fault Refusal :=
  .next (compute a 0b111011#6 f s)

/-- c1..c6 = 111100 (R209). -/
def execAlu111100 (a : Bool) (f : CFields) (s : State) : Host.Outcome State Fault Refusal :=
  .next (compute a 0b111100#6 f s)

/-- c1..c6 = 111101 (R209). -/
def execAlu111101 (a : Bool) (f : CFields) (s : State) : Host.Outcome State Fault Refusal :=
  .next (compute a 0b111101#6 f s)

/-- c1..c6 = 111110 (R209). -/
def execAlu111110 (a : Bool) (f : CFields) (s : State) : Host.Outcome State Fault Refusal :=
  .next (compute a 0b111110#6 f s)

end Sys2Proof.Machine
end

