-- ==== Sys2Proof/Machine/CompAlias.lean ====
section
/-! DEFINITION. The eight a = 1 aliases (R208): the control bits discard the second operand. -/

namespace Sys2Proof.Machine

/-- `dest=0;jump` with a = 1 (R208). -/
def execAlias0 (f : CFields) (s : State) : Host.Outcome State Fault Refusal :=
  .next (compute true 0b101010#6 f s)

/-- `dest=1;jump` with a = 1 (R208). -/
def execAlias1 (f : CFields) (s : State) : Host.Outcome State Fault Refusal :=
  .next (compute true 0b111111#6 f s)

/-- `dest=-1;jump` with a = 1 (R208). -/
def execAliasNeg1 (f : CFields) (s : State) : Host.Outcome State Fault Refusal :=
  .next (compute true 0b111010#6 f s)

/-- `dest=D;jump` with a = 1 (R208). -/
def execAliasD (f : CFields) (s : State) : Host.Outcome State Fault Refusal :=
  .next (compute true 0b001100#6 f s)

/-- `dest=!D;jump` with a = 1 (R208). -/
def execAliasNotD (f : CFields) (s : State) : Host.Outcome State Fault Refusal :=
  .next (compute true 0b001101#6 f s)

/-- `dest=-D;jump` with a = 1 (R208). -/
def execAliasNegD (f : CFields) (s : State) : Host.Outcome State Fault Refusal :=
  .next (compute true 0b001111#6 f s)

/-- `dest=D+1;jump` with a = 1 (R208). -/
def execAliasDInc (f : CFields) (s : State) : Host.Outcome State Fault Refusal :=
  .next (compute true 0b011111#6 f s)

/-- `dest=D-1;jump` with a = 1 (R208). -/
def execAliasDDec (f : CFields) (s : State) : Host.Outcome State Fault Refusal :=
  .next (compute true 0b001110#6 f s)

end Sys2Proof.Machine
end

