-- ==== Sys2Proof/Machine/CompDocumented.lean ====
section
/-! DEFINITION. The 28 documented comp computations (R180 to R207): each runs the ALU with its control bits and second operand. -/

namespace Sys2Proof.Machine

/-- `dest=0;jump`: the constant 0 (R180). -/
def execComp0 (f : CFields) (s : State) : Host.Outcome State Fault Refusal :=
  .next (compute false 0b101010#6 f s)

/-- `dest=1;jump`: the constant 1 (R181). -/
def execComp1 (f : CFields) (s : State) : Host.Outcome State Fault Refusal :=
  .next (compute false 0b111111#6 f s)

/-- `dest=-1;jump`: the constant -1 (R182). -/
def execCompNeg1 (f : CFields) (s : State) : Host.Outcome State Fault Refusal :=
  .next (compute false 0b111010#6 f s)

/-- `dest=D;jump`: D unchanged (R183). -/
def execCompD (f : CFields) (s : State) : Host.Outcome State Fault Refusal :=
  .next (compute false 0b001100#6 f s)

/-- `dest=A;jump`: A unchanged (R184). -/
def execCompA (f : CFields) (s : State) : Host.Outcome State Fault Refusal :=
  .next (compute false 0b110000#6 f s)

/-- `dest=M;jump`: M unchanged (R185). -/
def execCompM (f : CFields) (s : State) : Host.Outcome State Fault Refusal :=
  .next (compute true 0b110000#6 f s)

/-- `dest=!D;jump`: bitwise NOT of D (R186). -/
def execCompNotD (f : CFields) (s : State) : Host.Outcome State Fault Refusal :=
  .next (compute false 0b001101#6 f s)

/-- `dest=!A;jump`: bitwise NOT of A (R187). -/
def execCompNotA (f : CFields) (s : State) : Host.Outcome State Fault Refusal :=
  .next (compute false 0b110001#6 f s)

/-- `dest=!M;jump`: bitwise NOT of M (R188). -/
def execCompNotM (f : CFields) (s : State) : Host.Outcome State Fault Refusal :=
  .next (compute true 0b110001#6 f s)

/-- `dest=-D;jump`: two's-complement negation of D (R189). -/
def execCompNegD (f : CFields) (s : State) : Host.Outcome State Fault Refusal :=
  .next (compute false 0b001111#6 f s)

/-- `dest=-A;jump`: two's-complement negation of A (R190). -/
def execCompNegA (f : CFields) (s : State) : Host.Outcome State Fault Refusal :=
  .next (compute false 0b110011#6 f s)

/-- `dest=-M;jump`: two's-complement negation of M (R191). -/
def execCompNegM (f : CFields) (s : State) : Host.Outcome State Fault Refusal :=
  .next (compute true 0b110011#6 f s)

/-- `dest=D+1;jump`: D plus one (R192). -/
def execCompDInc (f : CFields) (s : State) : Host.Outcome State Fault Refusal :=
  .next (compute false 0b011111#6 f s)

/-- `dest=A+1;jump`: A plus one (R193). -/
def execCompAInc (f : CFields) (s : State) : Host.Outcome State Fault Refusal :=
  .next (compute false 0b110111#6 f s)

/-- `dest=M+1;jump`: M plus one (R194). -/
def execCompMInc (f : CFields) (s : State) : Host.Outcome State Fault Refusal :=
  .next (compute true 0b110111#6 f s)

/-- `dest=D-1;jump`: D minus one (R195). -/
def execCompDDec (f : CFields) (s : State) : Host.Outcome State Fault Refusal :=
  .next (compute false 0b001110#6 f s)

/-- `dest=A-1;jump`: A minus one (R196). -/
def execCompADec (f : CFields) (s : State) : Host.Outcome State Fault Refusal :=
  .next (compute false 0b110010#6 f s)

/-- `dest=M-1;jump`: M minus one (R197). -/
def execCompMDec (f : CFields) (s : State) : Host.Outcome State Fault Refusal :=
  .next (compute true 0b110010#6 f s)

/-- `dest=D+A;jump`: sum of D and A (R198). -/
def execCompDPlusA (f : CFields) (s : State) : Host.Outcome State Fault Refusal :=
  .next (compute false 0b000010#6 f s)

/-- `dest=D+M;jump`: sum of D and M (R199). -/
def execCompDPlusM (f : CFields) (s : State) : Host.Outcome State Fault Refusal :=
  .next (compute true 0b000010#6 f s)

/-- `dest=D-A;jump`: D minus A (R200). -/
def execCompDMinusA (f : CFields) (s : State) : Host.Outcome State Fault Refusal :=
  .next (compute false 0b010011#6 f s)

/-- `dest=D-M;jump`: D minus M (R201). -/
def execCompDMinusM (f : CFields) (s : State) : Host.Outcome State Fault Refusal :=
  .next (compute true 0b010011#6 f s)

/-- `dest=A-D;jump`: A minus D (R202). -/
def execCompAMinusD (f : CFields) (s : State) : Host.Outcome State Fault Refusal :=
  .next (compute false 0b000111#6 f s)

/-- `dest=M-D;jump`: M minus D (R203). -/
def execCompMMinusD (f : CFields) (s : State) : Host.Outcome State Fault Refusal :=
  .next (compute true 0b000111#6 f s)

/-- `dest=D&A;jump`: bitwise AND of D and A (R204). -/
def execCompDAndA (f : CFields) (s : State) : Host.Outcome State Fault Refusal :=
  .next (compute false 0b000000#6 f s)

/-- `dest=D&M;jump`: bitwise AND of D and M (R205). -/
def execCompDAndM (f : CFields) (s : State) : Host.Outcome State Fault Refusal :=
  .next (compute true 0b000000#6 f s)

/-- `dest=D|A;jump`: bitwise OR of D and A (R206). -/
def execCompDOrA (f : CFields) (s : State) : Host.Outcome State Fault Refusal :=
  .next (compute false 0b010101#6 f s)

/-- `dest=D|M;jump`: bitwise OR of D and M (R207). -/
def execCompDOrM (f : CFields) (s : State) : Host.Outcome State Fault Refusal :=
  .next (compute true 0b010101#6 f s)

end Sys2Proof.Machine
end

