-- ==== Sys2Proof/Machine/Dispatch.lean ====
section
/-! DEFINITION. The dispatch: one arm per instruction. -/

namespace Sys2Proof.Machine

def exec (i : Instr) (s : State) : Host.Outcome State Fault Refusal :=
  match i with
  | .aInstr v => Sys2Proof.Machine.execAInstr v s
  | .comp0 f => Sys2Proof.Machine.execComp0 f s
  | .comp1 f => Sys2Proof.Machine.execComp1 f s
  | .compNeg1 f => Sys2Proof.Machine.execCompNeg1 f s
  | .compD f => Sys2Proof.Machine.execCompD f s
  | .compA f => Sys2Proof.Machine.execCompA f s
  | .compM f => Sys2Proof.Machine.execCompM f s
  | .compNotD f => Sys2Proof.Machine.execCompNotD f s
  | .compNotA f => Sys2Proof.Machine.execCompNotA f s
  | .compNotM f => Sys2Proof.Machine.execCompNotM f s
  | .compNegD f => Sys2Proof.Machine.execCompNegD f s
  | .compNegA f => Sys2Proof.Machine.execCompNegA f s
  | .compNegM f => Sys2Proof.Machine.execCompNegM f s
  | .compDInc f => Sys2Proof.Machine.execCompDInc f s
  | .compAInc f => Sys2Proof.Machine.execCompAInc f s
  | .compMInc f => Sys2Proof.Machine.execCompMInc f s
  | .compDDec f => Sys2Proof.Machine.execCompDDec f s
  | .compADec f => Sys2Proof.Machine.execCompADec f s
  | .compMDec f => Sys2Proof.Machine.execCompMDec f s
  | .compDPlusA f => Sys2Proof.Machine.execCompDPlusA f s
  | .compDPlusM f => Sys2Proof.Machine.execCompDPlusM f s
  | .compDMinusA f => Sys2Proof.Machine.execCompDMinusA f s
  | .compDMinusM f => Sys2Proof.Machine.execCompDMinusM f s
  | .compAMinusD f => Sys2Proof.Machine.execCompAMinusD f s
  | .compMMinusD f => Sys2Proof.Machine.execCompMMinusD f s
  | .compDAndA f => Sys2Proof.Machine.execCompDAndA f s
  | .compDAndM f => Sys2Proof.Machine.execCompDAndM f s
  | .compDOrA f => Sys2Proof.Machine.execCompDOrA f s
  | .compDOrM f => Sys2Proof.Machine.execCompDOrM f s
  | .alias0 f => Sys2Proof.Machine.execAlias0 f s
  | .alias1 f => Sys2Proof.Machine.execAlias1 f s
  | .aliasNeg1 f => Sys2Proof.Machine.execAliasNeg1 f s
  | .aliasD f => Sys2Proof.Machine.execAliasD f s
  | .aliasNotD f => Sys2Proof.Machine.execAliasNotD f s
  | .aliasNegD f => Sys2Proof.Machine.execAliasNegD f s
  | .aliasDInc f => Sys2Proof.Machine.execAliasDInc f s
  | .aliasDDec f => Sys2Proof.Machine.execAliasDDec f s
  | .alu000001 a f => Sys2Proof.Machine.execAlu000001 a f s
  | .alu000011 a f => Sys2Proof.Machine.execAlu000011 a f s
  | .alu000100 a f => Sys2Proof.Machine.execAlu000100 a f s
  | .alu000101 a f => Sys2Proof.Machine.execAlu000101 a f s
  | .alu000110 a f => Sys2Proof.Machine.execAlu000110 a f s
  | .alu001000 a f => Sys2Proof.Machine.execAlu001000 a f s
  | .alu001001 a f => Sys2Proof.Machine.execAlu001001 a f s
  | .alu001010 a f => Sys2Proof.Machine.execAlu001010 a f s
  | .alu001011 a f => Sys2Proof.Machine.execAlu001011 a f s
  | .alu010000 a f => Sys2Proof.Machine.execAlu010000 a f s
  | .alu010001 a f => Sys2Proof.Machine.execAlu010001 a f s
  | .alu010010 a f => Sys2Proof.Machine.execAlu010010 a f s
  | .alu010100 a f => Sys2Proof.Machine.execAlu010100 a f s
  | .alu010110 a f => Sys2Proof.Machine.execAlu010110 a f s
  | .alu010111 a f => Sys2Proof.Machine.execAlu010111 a f s
  | .alu011000 a f => Sys2Proof.Machine.execAlu011000 a f s
  | .alu011001 a f => Sys2Proof.Machine.execAlu011001 a f s
  | .alu011010 a f => Sys2Proof.Machine.execAlu011010 a f s
  | .alu011011 a f => Sys2Proof.Machine.execAlu011011 a f s
  | .alu011100 a f => Sys2Proof.Machine.execAlu011100 a f s
  | .alu011101 a f => Sys2Proof.Machine.execAlu011101 a f s
  | .alu011110 a f => Sys2Proof.Machine.execAlu011110 a f s
  | .alu100000 a f => Sys2Proof.Machine.execAlu100000 a f s
  | .alu100001 a f => Sys2Proof.Machine.execAlu100001 a f s
  | .alu100010 a f => Sys2Proof.Machine.execAlu100010 a f s
  | .alu100011 a f => Sys2Proof.Machine.execAlu100011 a f s
  | .alu100100 a f => Sys2Proof.Machine.execAlu100100 a f s
  | .alu100101 a f => Sys2Proof.Machine.execAlu100101 a f s
  | .alu100110 a f => Sys2Proof.Machine.execAlu100110 a f s
  | .alu100111 a f => Sys2Proof.Machine.execAlu100111 a f s
  | .alu101000 a f => Sys2Proof.Machine.execAlu101000 a f s
  | .alu101001 a f => Sys2Proof.Machine.execAlu101001 a f s
  | .alu101011 a f => Sys2Proof.Machine.execAlu101011 a f s
  | .alu101100 a f => Sys2Proof.Machine.execAlu101100 a f s
  | .alu101101 a f => Sys2Proof.Machine.execAlu101101 a f s
  | .alu101110 a f => Sys2Proof.Machine.execAlu101110 a f s
  | .alu101111 a f => Sys2Proof.Machine.execAlu101111 a f s
  | .alu110100 a f => Sys2Proof.Machine.execAlu110100 a f s
  | .alu110101 a f => Sys2Proof.Machine.execAlu110101 a f s
  | .alu110110 a f => Sys2Proof.Machine.execAlu110110 a f s
  | .alu111000 a f => Sys2Proof.Machine.execAlu111000 a f s
  | .alu111001 a f => Sys2Proof.Machine.execAlu111001 a f s
  | .alu111011 a f => Sys2Proof.Machine.execAlu111011 a f s
  | .alu111100 a f => Sys2Proof.Machine.execAlu111100 a f s
  | .alu111101 a f => Sys2Proof.Machine.execAlu111101 a f s
  | .alu111110 a f => Sys2Proof.Machine.execAlu111110 a f s

end Sys2Proof.Machine
end

