-- ==== Sys2Proof/Machine/Step.lean ====
section
/-! DEFINITION. One step: one clock cycle of the composed computer, which executes the instruction at PC
(R100, R114). -/

namespace Sys2Proof.Machine

/-- One cycle: the word `ROM[PC]` is fetched, decoded and executed (R100, R114).
`exec` ends with the clock edge, so nothing is left for `step` to add. -/
def step (s : State) : Host.Outcome State Fault Refusal := exec (decode (fetch s)) s

/-- The state with an instruction's word stored in ROM where `step` fetches next: at PC.
It stands for the host's load of a program (R233; log entry 5). -/
def State.withFetchWord (s : State) (nbits w : Nat) : State :=
  { s with rom := Memory.write s.rom s.pc (tableWord nbits w) }

end Sys2Proof.Machine
end

