-- ==== Sys2Proof/WellFormed.lean ====
section
/-! DEFINITION. Which instructions are well formed, and which of them the canonical assembler emits. -/

namespace Sys2Proof

/-- Every instruction term is well formed: each field has its width in its type (a literal is 15 bits, R73), and no
combination of comp, dest and jump is illegal (R79).
There is no check that a term could fail, so statements carry no well-formedness premise. -/
def Instr.wellFormed (_ : Instr) : Bool := true

/-- Whether the comp of a form is one of the 28 documented ones (R76). -/
def documentedComp (a : Bool) (c : BitVec 6) : Bool :=
  if a then [0b110000#6, 0b110001#6, 0b110011#6, 0b110111#6, 0b110010#6, 0b000010#6, 0b010011#6, 0b000111#6,
    0b000000#6, 0b010101#6].contains c
  else [0b101010#6, 0b111111#6, 0b111010#6, 0b001100#6, 0b110000#6, 0b001101#6, 0b110001#6, 0b001111#6,
    0b110011#6, 0b011111#6, 0b110111#6, 0b001110#6, 0b110010#6, 0b000010#6, 0b010011#6, 0b000111#6,
    0b000000#6, 0b010101#6].contains c

/-- Whether the canonical assembler emits the instruction's word (R82, R85, R208): an A-instruction, or a
documented comp with bits 14..13 = `11`. Every other word executes all the same (R79). -/
def Instr.canonical (i : Instr) : Bool :=
  match formOf i with
  | .a _ => true
  | .c a c f => documentedComp a c && f.ignored == 0b11#2

end Sys2Proof
end

