-- ==== Sys2Proof/Machine/Assembler.lean ====
section
/-! DEFINITION. The notation: how the canonical assembler spells and encodes a program (R76 to R78, R82 to R84) and
how a word is printed (R85, R208). No hardware rule depends on it (D15). -/

namespace Sys2Proof.Machine

/-- The documented comps by their spelling, with the a-bit and c1..c6 (R76), the first half. -/
def compTableA : List (String × Bool × BitVec 6) :=
  [("0", false, 0b101010#6),
   ("1", false, 0b111111#6),
   ("-1", false, 0b111010#6),
   ("D", false, 0b001100#6),
   ("A", false, 0b110000#6),
   ("M", true, 0b110000#6),
   ("!D", false, 0b001101#6),
   ("!A", false, 0b110001#6),
   ("!M", true, 0b110001#6),
   ("-D", false, 0b001111#6),
   ("-A", false, 0b110011#6),
   ("-M", true, 0b110011#6),
   ("D+1", false, 0b011111#6),
   ("A+1", false, 0b110111#6)]

/-- The documented comps by their spelling, with the a-bit and c1..c6 (R76), the second half. -/
def compTableB : List (String × Bool × BitVec 6) :=
  [("M+1", true, 0b110111#6),
   ("D-1", false, 0b001110#6),
   ("A-1", false, 0b110010#6),
   ("M-1", true, 0b110010#6),
   ("D+A", false, 0b000010#6),
   ("D+M", true, 0b000010#6),
   ("D-A", false, 0b010011#6),
   ("D-M", true, 0b010011#6),
   ("A-D", false, 0b000111#6),
   ("M-D", true, 0b000111#6),
   ("D&A", false, 0b000000#6),
   ("D&M", true, 0b000000#6),
   ("D|A", false, 0b010101#6),
   ("D|M", true, 0b010101#6)]

/-- The 28 documented comps (R76). -/
def compTable : List (String × Bool × BitVec 6) := compTableA ++ compTableB

/-- The dests by their spelling; null is spelled by nothing (R77). -/
def destTable : List (String × Dest) :=
  [("", Dest.none), ("M", Dest.M), ("D", Dest.D), ("MD", Dest.MD), ("A", Dest.A), ("AM", Dest.AM),
   ("AD", Dest.AD), ("AMD", Dest.AMD)]

/-- The jumps by their spelling; null is spelled by nothing (R78). -/
def jumpTable : List (String × Jump) :=
  [("", Jump.none), ("JGT", Jump.JGT), ("JEQ", Jump.JEQ), ("JGE", Jump.JGE), ("JLT", Jump.JLT),
   ("JNE", Jump.JNE), ("JLE", Jump.JLE), ("JMP", Jump.JMP)]

/-- The value a table gives a spelling. -/
def valueOf {α : Type} (table : List (String × α)) (name : String) : Option α :=
  (table.find? fun p => p.1 == name).map (·.2)

/-- The spelling a table gives a value. -/
def spellingOf {α : Type} [DecidableEq α] (table : List (String × α)) (v : α) : Option String :=
  (table.find? fun p => decide (p.2 = v)).map (·.1)

/-- One line of a source program, comment and blank lines apart (R82). -/
inductive Line where
  /-- `(LABEL)`: emits no word. -/
  | label (name : String)
  /-- `@n`. -/
  | atNumber (n : Nat)
  /-- `@sym`. -/
  | atSymbol (name : String)
  /-- `dest=comp;jump`, with an empty spelling for an omitted dest or jump. -/
  | compute (dest comp jump : String)
  deriving DecidableEq, Repr

/-- The predefined symbols (R83). -/
def predefined : List (String × Nat) :=
  [("R0", 0), ("R1", 1), ("R2", 2), ("R3", 3), ("R4", 4), ("R5", 5), ("R6", 6), ("R7", 7),
   ("R8", 8), ("R9", 9), ("R10", 10), ("R11", 11), ("R12", 12), ("R13", 13), ("R14", 14),
   ("R15", 15), ("SP", 0), ("LCL", 1), ("ARG", 2), ("THIS", 3), ("THAT", 4),
   ("SCREEN", 16384), ("KBD", 24576)]

/-- The labels of a program, each bound to the ROM address of the next instruction (R83); `pc` is the address of the
next word. -/
def labelsFrom : Nat → List Line → List (String × Nat)
  | _, [] => []
  | pc, .label name :: rest => (name, pc) :: labelsFrom pc rest
  | pc, .atNumber _ :: rest => labelsFrom (pc + 1) rest
  | pc, .atSymbol _ :: rest => labelsFrom (pc + 1) rest
  | pc, .compute _ _ _ :: rest => labelsFrom (pc + 1) rest

/-- The variables of a program: every other symbol gets the next data address, in order of first use (R83). -/
def variablesFrom (known : List (String × Nat)) : Nat → List Line → List (String × Nat)
  | _, [] => []
  | next, .atSymbol name :: rest =>
    match valueOf known name with
    | some _ => variablesFrom known next rest
    | none => (name, next) :: variablesFrom ((name, next) :: known) (next + 1) rest
  | next, .label _ :: rest => variablesFrom known next rest
  | next, .atNumber _ :: rest => variablesFrom known next rest
  | next, .compute _ _ _ :: rest => variablesFrom known next rest

/-- Every symbol of a program with its value: labels, predefined symbols, and variables from address 16 on (R83). -/
def symbolsOf (program : List Line) : List (String × Nat) :=
  let known := labelsFrom 0 program ++ predefined
  known ++ variablesFrom known 16 program

/-- `@n`: a constant above 32767 cannot be an immediate (R73). -/
def assembleAt (n : Nat) : Option Word16 :=
  if n < 32768 then some (encodeForm (.a (BitVec.ofNat 15 n))) else none

/-- `dest=comp;jump`, with bits 14..13 = `11` (R82); nothing for a spelling outside the tables. -/
def assembleCompute (dest comp jump : String) : Option Word16 := do
  let d ← valueOf destTable dest
  let c ← valueOf compTable comp
  let j ← valueOf jumpTable jump
  return encodeForm (.c c.1 c.2 { ignored := 0b11#2, dest := d, jump := j })

/-- The words of a program's lines, its symbols given. -/
def assembleLines (symbols : List (String × Nat)) : List Line → Option (List Word16)
  | [] => some []
  | .label _ :: rest => assembleLines symbols rest
  | .atNumber n :: rest => do
    let w ← assembleAt n
    let ws ← assembleLines symbols rest
    return w :: ws
  | .atSymbol name :: rest => do
    let n ← valueOf symbols name
    let w ← assembleAt n
    let ws ← assembleLines symbols rest
    return w :: ws
  | .compute dest comp jump :: rest => do
    let w ← assembleCompute dest comp jump
    let ws ← assembleLines symbols rest
    return w :: ws

/-- The words of a program, one for each line that is not a label (R82, R83, R84). -/
def assemble (program : List Line) : Option (List Word16) :=
  assembleLines (symbolsOf program) program

/-! ### The text of a program (R82, R83) -/

/-- A line without the comment that `//` begins (R82). -/
def withoutComment : List Char → List Char
  | [] => []
  | [c] => [c]
  | c :: d :: rest => if c == '/' && d == '/' then [] else c :: withoutComment (d :: rest)

/-- A line without its comment and its blank space, which is ignored (R82). -/
def significant (line : List Char) : List Char :=
  (withoutComment line).filter fun c => !(c == ' ' || c == '\t' || c == '\r')

/-- Whether a text is a decimal constant (R82). -/
def isDecimal (text : List Char) : Bool := !text.isEmpty && text.all Char.isDigit

/-- The value of a decimal constant. -/
def decimalValue (text : List Char) : Nat :=
  text.foldl (fun n c => 10 * n + (c.toNat - '0'.toNat)) 0

/-- A symbol name: letters, digits, `_`, `.`, `$` and `:`, not beginning with a digit (R83). -/
def isSymbolName (text : List Char) : Bool :=
  !text.isEmpty && !((text.headD 'a').isDigit) &&
    text.all fun c => c.isAlpha || c.isDigit || ['_', '.', '$', ':'].contains c

/-- A text cut at the first occurrence of a character: what stands before it, and what stands after it if it occurs. -/
def cutAt (mark : Char) : List Char → List Char × Option (List Char)
  | [] => ([], none)
  | c :: rest =>
    if c == mark then ([], some rest)
    else
      let r := cutAt mark rest
      (c :: r.1, r.2)

/-- `dest=comp;jump`, in which `dest=` and `;jump` may be omitted (R82); a part that is written is not empty. -/
def parseCompute (text : List Char) : Option Line :=
  let head := cutAt ';' text
  let jump := head.2.getD []
  let sides := cutAt '=' head.1
  let dest := if sides.2.isSome then sides.1 else []
  let comp := sides.2.getD sides.1
  if head.2 == some [] || (sides.2.isSome && sides.1.isEmpty) then none
  else some (.compute (String.ofList dest) (String.ofList comp) (String.ofList jump))

/-- One line of source text: `some none` for a blank or comment line, `none` for a line the syntax does not
have (R82). -/
def parseLine (line : List Char) : Option (Option Line) :=
  match significant line with
  | [] => some none
  | '@' :: rest =>
    if isDecimal rest then some (some (.atNumber (decimalValue rest)))
    else if isSymbolName rest then some (some (.atSymbol (String.ofList rest)))
    else none
  | '(' :: rest =>
    if rest.getLast? == some ')' && isSymbolName rest.dropLast then
      some (some (.label (String.ofList rest.dropLast)))
    else none
  | text => (parseCompute text).map some

/-- The lines of a text. -/
def textLines : List Char → List (List Char)
  | [] => [[]]
  | c :: rest =>
    if c == '\n' then [] :: textLines rest
    else
      match textLines rest with
      | [] => [[c]]
      | line :: lines => (c :: line) :: lines

/-- The program a list of source lines writes, blank and comment lines dropped (R82). -/
def parseLines : List (List Char) → Option (List Line)
  | [] => some []
  | line :: lines => do
    let l ← parseLine line
    let ls ← parseLines lines
    return match l with
      | some l => l :: ls
      | none => ls

/-- The words of a source text (R82, R83, R84); no word for a text outside the syntax. -/
def assembleText (text : String) : Option (List Word16) :=
  match parseLines (textLines text.toList) with
  | some program => assemble program
  | none => none

/-- The bits of a vector, most significant first. -/
def bitsText {w : Nat} (v : BitVec w) : String :=
  String.ofList ((List.range w).map fun i => if v.getLsbD (w - 1 - i) then '1' else '0')

/-- The spelling of a comp: as R76 has it; an a = 1 alias by its a = 0 mnemonic with the note `a=1` (R208); any other
code by its raw fields (R85). The second string is the note. -/
def spellComp (a : Bool) (c : BitVec 6) : String × String :=
  match spellingOf compTable (a, c) with
  | some text => (text, "")
  | none =>
    match a, spellingOf compTable (false, c) with
    | true, some text => (text, "; a=1")
    | _, _ => ("comp#a=" ++ (if a then "1" else "0") ++ ",c=" ++ bitsText c, "")

/-- How a printer spells an instruction (R82, R85, R208).
DESIGN CHOICE, log entry 17 (safe): the spec leaves open how dest, jump and several notes stand together. -/
def spell (i : Instr) : String :=
  match formOf i with
  | .a v => "@" ++ Nat.repr v.toNat
  | .c a c f =>
    let comp := spellComp a c
    let dest := match spellingOf destTable f.dest with
      | some "" => ""
      | some text => text ++ "="
      | none => ""
    let jump := match spellingOf jumpTable f.jump with
      | some "" => ""
      | some text => ";" ++ text
      | none => ""
    let bits := if f.ignored == 0b11#2 then "" else "; bits14:13=" ++ bitsText f.ignored
    dest ++ comp.1 ++ jump ++ comp.2 ++ bits

end Sys2Proof.Machine
end

