-- ==== Sys2Proof/Machine/Block.lean ====
section
/-! DEFINITION. The recursive memory block: registers composed 8 ways at a time through DMux8Way and
Mux8Way16 (R44, R45), with its leaves and load signals made visible (R46, R47). -/

namespace Sys2Proof.Machine

/-- A memory block of `L` levels (R44): a leaf is one `Register`, an internal node holds exactly 8 child
blocks.
The address width is `3 * L` by the type of every operation below, so that an inconsistent width cannot be
built (R49; D18). -/
def Block : Nat → Type
  | 0 => Word16
  | L + 1 => Fin 8 → Block L

/-- `hi`: the 3 most significant address bits, selecting the child (R45). -/
def addressHi (L : Nat) (address : BitVec (3 * (L + 1))) : BitVec 3 :=
  address.extractLsb' (3 * L) 3

/-- `lo`: the remaining address bits, passed unchanged to the children (R45). -/
def addressLo (L : Nat) (address : BitVec (3 * (L + 1))) : BitVec (3 * L) :=
  address.extractLsb' 0 (3 * L)

/-- The combinational output `out` of a block at an address (R43 for a leaf, R45 for a node). -/
def blockOut : (L : Nat) → Block L → BitVec (3 * L) → Word16
  | 0, r, _ => r
  | L + 1, child, address =>
    mux8Way16 (fun i => blockOut L (child i) (addressLo L address)) (addressHi L address)

/-- The block after the clock edge of a cycle with inputs `in`, `load` and `address`
(R43 for a leaf, R45 for a node). -/
def blockEdge : (L : Nat) → Block L → Word16 → Bool → BitVec (3 * L) → Block L
  | 0, r, inp, load, _ => registerEdge r inp load
  | L + 1, child, inp, load, address =>
    fun i => blockEdge L (child i) inp (dMux8Way load (addressHi L address) i) (addressLo L address)

/-- The words of a block's leaves, child 0 first. -/
def blockLeaves : (L : Nat) → Block L → List Word16
  | 0, r => [r]
  | L + 1, child => (List.finRange 8).flatMap fun i => blockLeaves L (child i)

/-- The `load` signals that a block's leaves observe in a cycle, child 0 first (R45, R46). -/
def leafLoads : (L : Nat) → Bool → BitVec (3 * L) → List Bool
  | 0, load, _ => [load]
  | L + 1, load, address =>
    (List.finRange 8).flatMap fun i =>
      leafLoads L (dMux8Way load (addressHi L address) i) (addressLo L address)

/-- The block of `L` levels whose cell at flat address `X` holds `cell (base + X)` (R47): child `i` of a node
begins at `base + i * 8^(L-1)`. -/
def blockOf (cell : Nat → Word16) : (L : Nat) → Nat → Block L
  | 0, base => cell base
  | L + 1, base => fun i => blockOf cell L (base + i.val * 8 ^ L)

/-- The children taken from the root to reach address `X` in a block of `L` levels (R47): child
`X div 8^(L-1)` at the top, then the same rule on `X mod 8^(L-1)`. -/
def childPath : Nat → Nat → List Nat
  | 0, _ => []
  | L + 1, x => x / 8 ^ L :: childPath L (x % 8 ^ L)

/-- The leaf reached from the root by a path of child numbers; a path of the wrong length or with a number
above 7 reaches none (R47). -/
def leafAt : (L : Nat) → Block L → List Nat → Option Word16
  | 0, r, [] => some r
  | L + 1, child, i :: path => if h : i < 8 then leafAt L (child ⟨i, h⟩) path else none
  | _, _, _ => none

end Sys2Proof.Machine
end

