-- ==== Sys2Proof/Machine/Datapath.lean ====
section
/-! DEFINITION. The CPU block as the spec wires it, from the raw instruction word: decoder (R101),
register-file controller (R102, R103, R106), ALU arbiter (R104, R105), program-counter logic (R107, R108), ports
(R109, R110), the per-cycle function (R111), the composed computer (R114), and the computer wired to the recursive
RAM32K block (R30, R54).
Everything down to `cpuStep` is over any ALU function (R170). -/

namespace Sys2Proof.Machine

/-- The decoder's combinational signals (R101). -/
structure Signals where
  isC : Bool
  aBit : Bool
  ctl : BitVec 6
  dA : Bool
  dD : Bool
  dM : Bool
  j1 : Bool
  j2 : Bool
  j3 : Bool
  deriving DecidableEq, Repr

/-- The decoder (R101); `instruction[14:13]` feeds no signal. -/
def decoder (instruction : Word16) : Signals :=
  { isC := instruction.getLsbD 15
    aBit := instruction.getLsbD 12
    ctl := instruction.extractLsb' 6 6
    dA := instruction.getLsbD 5
    dD := instruction.getLsbD 4
    dM := instruction.getLsbD 3
    j1 := instruction.getLsbD 2
    j2 := instruction.getLsbD 1
    j3 := instruction.getLsbD 0 }

/-- `A_in` (R102). -/
def aInput (g : Signals) (instruction out : Word16) : Word16 :=
  if g.isC then out else zext16 (instruction.extractLsb' 0 15)

/-- `loadA` (R103). -/
def loadA (g : Signals) : Bool := !g.isC || (g.isC && g.dA)

/-- `loadD` (R106). -/
def loadD (g : Signals) : Bool := g.isC && g.dD

/-- `writeM` (R109). -/
def writeMSignal (g : Signals) : Bool := g.isC && g.dM

/-- The ALU's second input `y` (R104). -/
def arbiterY (g : Signals) (inM regA : Word16) : Word16 := if g.aBit then inM else regA

/-- `jump` (R107), with `pos` computed from the two flags exactly as written. -/
def jumpSignal (g : Signals) (zr ng : Bool) : Bool :=
  let pos := !zr && !ng
  g.isC && ((g.j1 && ng) || (g.j2 && zr) || (g.j3 && pos))

/-- The CPU's three clocked registers (R111's `s`). -/
structure CpuRegs where
  regA : Word16
  regD : Word16
  pc : Word15
  deriving DecidableEq, Repr

/-- The CPU's output ports in a cycle (R29), and its registers after the edge. -/
structure CpuCycle where
  outM : Word16
  writeM : Bool
  addressM : Word15
  pc : Word15
  after : CpuRegs
  deriving DecidableEq, Repr

/-- `cpu_step` (R111), over any ALU.
For an A-instruction, and whenever `writeM = 0`, `outM` is a don't-care that reaches no state: log entry 8. -/
def cpuStep (f : AluFn) (s : CpuRegs) (instruction inM : Word16) (reset : Bool) : CpuCycle :=
  let g := decoder instruction
  let r := f s.regD (arbiterY g inM s.regA) g.ctl
  { outM := r.out
    writeM := writeMSignal g
    addressM := low15 s.regA
    pc := s.pc
    after :=
      { regA := registerEdge s.regA (aInput g instruction r.out) (loadA g)
        regD := registerEdge s.regD r.out (loadD g)
        pc := if reset then 0#15
              else if jumpSignal g r.zr r.ng then low15 s.regA
              else s.pc + 1#15 } }

/-- The CPU registers of a state. -/
def cpuRegs (s : State) : CpuRegs := { regA := s.regA, regD := s.regD, pc := s.pc }

/-- The CPU's cycle in the composed computer: `instruction = ROM[pc]`, `inM = RAM[A[14:0]]` (R30, R114). -/
def computerCycle (s : State) : CpuCycle :=
  cpuStep alu (cpuRegs s) (fetch s) (Memory.read s.ram (low15 s.regA)) (resetPin s)

/-- `step(S, ROM, r)` of the composed computer (R114), from the raw word `ROM[PC]`. -/
def computerStep (s : State) : State :=
  let c := computerCycle s
  { regA := c.after.regA
    regD := c.after.regD
    pc := c.after.pc
    ram := if c.writeM then Memory.write s.ram c.addressM c.outM else s.ram
    rom := s.rom
    resetIn := s.resetIn.tail }

/-- The computer with its data memory built as the recursive block RAM32K (R30, R54). -/
structure WiredComputer where
  cpu : CpuRegs
  ram : Block Config.memoryLevels

/-- One cycle of the wired computer (R30, R54): the block's `address` is `addressM`, its `in` is `outM`, its `load`
is `writeM`, and its `out` is the CPU's `inM`. -/
def wiredStep (f : AluFn) (rom : Memory) (reset : Bool) (c : WiredComputer) : WiredComputer :=
  let inM := blockOut Config.memoryLevels c.ram (low15 c.cpu.regA)
  let k := cpuStep f c.cpu (Memory.read rom c.cpu.pc) inM reset
  { cpu := k.after
    ram := blockEdge Config.memoryLevels c.ram k.outM k.writeM k.addressM }

end Sys2Proof.Machine
end

