-- ==== Sys2Proof/Machine/RunEnd.lean ====
section
/-! DEFINITION. When a run has ended, as a computation (R229). The hardware itself never stops, and no step reads
this. -/

namespace Sys2Proof.Machine

/-- Whether a state meets the four conditions of R229, with `L` its PC: `ROM[L]` is `@L`, `ROM[L + 1]` is a
compute-instruction with dest null and jump `JMP`, and every coming reset bit is 0. -/
def inTerminalLoop (s : State) : Bool :=
  let next := match decodeForm (Memory.read s.rom (s.pc + 1#15)) with
    | .c _ _ f => f.dest == Dest.none && f.jump == Jump.JMP
    | .a _ => false
  fetch s == zext16 s.pc && next && s.resetIn.all (fun bit => !bit)

/-- The number of cycles after which a run has ended: that of the FIRST state that meets R229's conditions, looked for
among the first `bound` states of the run, the start included. -/
def endCycle : (bound : Nat) → State → Option Nat
  | 0, _ => none
  | bound + 1, s =>
    if inTerminalLoop s then some 0 else (endCycle bound (computerStep s)).map (· + 1)

end Sys2Proof.Machine
end

