-- ==== Sys2Proof/Safety.lean ====
section
/-! DEFINITION. The terms that claims about the machine are stated in: well-formed states, runs, the closed form of
a compute-instruction's effect, what a recursive block holds, and the end of a run. -/

namespace Sys2Proof.Machine

/-- The invariant of the model's memories: RAM and ROM are in canonical form. -/
def State.wf (s : State) : Bool := Memory.wf s.ram && Memory.wf s.rom

/-- A step that does not stop the machine; R113 says every step is one. -/
def SafeStep (s : State) : Prop := ∃ t, step s = .next t

/-- `n` cycles of the machine (R114: one step is one cycle). -/
def runCycles (n : Nat) (s : State) : Host.Outcome State Fault Refusal :=
  Host.Core.run Sys2Proof.core n s

/-- `n` cycles of R114's `step(S, ROM, r)`. -/
def datapathRun : Nat → State → State
  | 0, s => s
  | n + 1, s => datapathRun n (computerStep s)

/-- The word of a compute-instruction by the weights of its bit positions (R72): bit 15, ignored bits 14..13, `a` at
bit 12, c1..c6 at 11..6, the dest bits at 5..3 and the jump bits at 2..0. -/
def cWord (a : Bool) (c : BitVec 6) (f : CFields) : Word16 :=
  BitVec.ofNat 16
    (32768 + 8192 * f.ignored.toNat + 4096 * a.toNat + 64 * c.toNat
      + 32 * f.dest.dA.toNat + 16 * f.dest.dD.toNat + 8 * f.dest.dM.toNat
      + 4 * f.jump.j1.toNat + 2 * f.jump.j2.toNat + f.jump.j3.toNat)

/-- `y = a ? MemRead(A[14:0], 1) : A` (R160). -/
def secondOperand (s : State) (a : Bool) : Word16 :=
  if a then Memory.read s.ram (s.regA.extractLsb' 0 15) else s.regA

/-- `(out, zr, ng) = ALU(D, y, c1..c6)` in a state (R160). -/
def aluIn (s : State) (a : Bool) (c : BitVec 6) : AluOut := alu s.regD (secondOperand s a) c

/-- `reset ? 0 : (jump ? A[14:0] : (PC + 1) mod 2^15)` in a state (R160). -/
def pcAfter (s : State) (jump : Bool) : Word15 :=
  if resetPin s then 0#15 else if jump then s.regA.extractLsb' 0 15 else s.pc + 1#15

/-- The whole effect that R160 gives a compute-instruction with result `out` and flags `zr` and `ng`. -/
def afterCompute (s : State) (f : CFields) (out : Word16) (zr ng : Bool) : State :=
  { regA := if f.dest.dA then out else s.regA
    regD := if f.dest.dD then out else s.regD
    pc := pcAfter s
      ((f.jump.j1 && ng) || (f.jump.j2 && zr) || (f.jump.j3 && (!zr && !ng)))
    ram := if f.dest.dM then Memory.write s.ram (s.regA.extractLsb' 0 15) out else s.ram
    rom := s.rom
    resetIn := s.resetIn.tail }

/-- What a rule of R180 to R209 says of the instructions `mk` with a-bit `a` and control bits `c`: the word is
`1xxaccccccdddjjj` with these bits, both ways; and in every state, for every dest and jump, the instruction completes
with the effect of R160 for the result `fn D y`, with `zr = (out = 0)` and `ng = out[15]` feeding its jump. -/
def Performs (mk : CFields → Instr) (a : Bool) (c : BitVec 6)
    (fn : Word16 → Word16 → Word16) : Prop :=
  ∀ (f : CFields) (s : State),
    encode (mk f) = cWord a c f ∧ decode (cWord a c f) = mk f ∧
      exec (mk f) s =
        .next (afterCompute s f (fn s.regD (secondOperand s a))
          (decide (fn s.regD (secondOperand s a) = 0#16))
          ((fn s.regD (secondOperand s a)).getLsbD 15))

/-- `Performs` for both values of the a-bit (R209). -/
def PerformsBoth (mk : Bool → CFields → Instr) (c : BitVec 6)
    (fn : Word16 → Word16 → Word16) : Prop :=
  ∀ a : Bool, Performs (mk a) a c fn

/-- What a rule of R140 to R147 says of dest `d`: every compute-instruction with it completes, updates PC as R160
says, and leaves A, D and memory as `post old out new` says. -/
def Stores (d : Dest) (post : State → Word16 → State → Prop) : Prop :=
  ∀ (a : Bool) (c : BitVec 6) (ignored : BitVec 2) (j : Jump) (s : State),
    ∃ t, exec (decode (cWord a c ⟨ignored, d, j⟩)) s = .next t ∧
      t.pc = pcAfter s ((j.j1 && (aluIn s a c).ng) || (j.j2 && (aluIn s a c).zr) ||
        (j.j3 && (!(aluIn s a c).zr && !(aluIn s a c).ng))) ∧
      post s (aluIn s a c).out t

/-- `MemWrite(A[14:0], 1, out)` from `s` to `t`, seen through every word of the memory (R141). -/
def WroteAtOldA (s : State) (out : Word16) (t : State) : Prop :=
  ∀ x : Word15, Memory.read t.ram x =
    if x = s.regA.extractLsb' 0 15 then out else Memory.read s.ram x

/-- No word of the memory changed from `s` to `t`. -/
def MemoryKept (s t : State) : Prop := ∀ x : Word15, Memory.read t.ram x = Memory.read s.ram x

/-- What a rule of R150 to R157 says of jump `j`: every compute-instruction with it completes, and its next PC is
the target exactly when `cond zr ng` holds, unless reset overrides. -/
def JumpsWhen (j : Jump) (cond : Bool → Bool → Bool) : Prop :=
  ∀ (a : Bool) (c : BitVec 6) (ignored : BitVec 2) (d : Dest) (s : State),
    ∃ t, exec (decode (cWord a c ⟨ignored, d, j⟩)) s = .next t ∧
      t.pc = pcAfter s (cond (aluIn s a c).zr (aluIn s a c).ng)

/-- The wired computer holds what the state holds: the same registers, and in its block the same word at every
address (R54). -/
def Wires (s : State) (c : WiredComputer) : Prop :=
  c.cpu = cpuRegs s ∧
    ∀ x : Word15, blockOut Config.memoryLevels c.ram x = Memory.read s.ram x

/-- The memory writes of the first `n` cycles from a state, the latest first, as the ports show them
(R109, R114). -/
def writesLatestFirst : Nat → State → List (Word15 × Word16)
  | 0, _ => []
  | n + 1, s =>
    writesLatestFirst n (computerStep s) ++
      (if (computerCycle s).writeM then [((computerCycle s).addressM, (computerCycle s).outM)] else [])

/-- The word last written at `x` according to a list of writes, latest first; else what memory held at the start. -/
def latestWrite (writes : List (Word15 × Word16)) (start : Memory) (x : Word15) : Word16 :=
  match writes.find? (fun p => p.1 == x) with
  | some p => p.2
  | none => Memory.read start x

/-- The four conditions of R229 on a state, with label `l` (D14): PC is at `@l`, whose successor is a
compute-instruction with dest null and jump `JMP`, and reset stays 0 from then on.
A run meets them at its end and at every later return to `l`; `RunEnds` picks the first. -/
def AtTerminalLoop (s : State) (l : Word15) : Prop :=
  s.pc = l ∧ Memory.read s.rom l = l.setWidth 16 ∧
    (∃ a c ignored, Memory.read s.rom (l + 1#15) = cWord a c ⟨ignored, Dest.none, Jump.JMP⟩) ∧
    ∀ b ∈ s.resetIn, b = false

/-- The run from `s` has ended after `n` cycles, at state `t`: `t` is the FIRST state of the run that meets the
conditions of R229 (D14), for any label. -/
def RunEnds (s : State) (n : Nat) (t : State) : Prop :=
  (runCycles n s = .next t ∧ ∃ l, AtTerminalLoop t l) ∧
    ∀ k, k < n → ∀ u, runCycles k s = .next u → ∀ l, ¬ AtTerminalLoop u l

end Sys2Proof.Machine
end

