-- ==== Sys2Proof/Certificates/Slice0/Obligations.lean ====
section
/-! DEFINITION. The statements for the provers. Each docstring names the rule of spec/ that it formalises. -/

open Sys2Proof Sys2Proof.Machine

/-! ## Encoding -/

/-- R80, R76: the decoder undoes the encoder, for every instruction with every field at every value. -/
def Obligations.DecodeOfEncodeIsTheInstruction : Prop :=
  ∀ i : Instr, decode (encode i) = i

/-- R79: every 16-bit word is the encoding of exactly the instruction it decodes to, so that no bit is lost. -/
def Obligations.EncodeOfDecodeIsTheWord : Prop :=
  ∀ w : Word16, encode (decode w) = w

/-- R70: bit 15 alone selects the form. -/
def Obligations.HighBitAloneSelectsTheForm : Prop :=
  ∀ w : Word16,
    ((∃ v, decode w = .aInstr v) ↔ w.getLsbD 15 = false) ∧
    ((∃ a c f, formOf (decode w) = .c a c f) ↔ w.getLsbD 15 = true)

/-- R80 (the spec derives it from R70, R72 and R79): the decoder's term, field by field, and two compute words that
differ only in bits 14..13 mean the same. -/
def Obligations.DecoderReadsTheFieldsOfR80 : Prop :=
  (∀ w : Word16,
    formOf (decode w) =
      if w.getLsbD 15 = false then .a (w.extractLsb' 0 15)
      else .c (w.getLsbD 12) (w.extractLsb' 6 6)
        { ignored := w.extractLsb' 13 2
          dest := ⟨w.getLsbD 5, w.getLsbD 4, w.getLsbD 3⟩
          jump := ⟨w.getLsbD 2, w.getLsbD 1, w.getLsbD 0⟩ }) ∧
  (∀ (a : Bool) (c : BitVec 6) (ignored ignored' : BitVec 2) (d : Dest) (j : Jump) (s : State),
    exec (decode (cWord a c ⟨ignored, d, j⟩)) s = exec (decode (cWord a c ⟨ignored', d, j⟩)) s)

/-- R71, R72, R76: words written out bit by bit, one or more of each family of the table, decode to the instructions
they stand for. -/
def Obligations.WrittenOutWordsDecode : Prop :=
  decode 0b0000000000010101#16 = .aInstr 21#15 ∧
  decode 0b1110001100010000#16 = .compD ⟨0b11#2, Dest.D, Jump.none⟩ ∧
  decode 0b1111000010011001#16 = .compDPlusM ⟨0b11#2, Dest.MD, Jump.JGT⟩ ∧
  decode 0b1001101010101110#16 = .alias0 ⟨0b00#2, Dest.AM, Jump.JLE⟩ ∧
  decode 0b1010000001010100#16 = .alu000001 false ⟨0b01#2, Dest.D, Jump.JLT⟩ ∧
  decode 0b1101111110100011#16 = .alu111110 true ⟨0b10#2, Dest.A, Jump.JGE⟩

/-! ## One step -/

/-- R100, R114: a step is the execution of the instruction that the word at PC decodes to; the step adds nothing
around it. -/
def Obligations.StepRunsTheDecodedInstruction : Prop :=
  ∀ (s : State) (i : Instr), decode (Memory.read s.rom s.pc) = i → step s = exec i s

/-- R111, R114: the step through decoding and dispatch is the composed computer's cycle on the raw word, and a run is
the iteration of that cycle: no run ever stops. -/
def Obligations.RunIsTheDatapathRun : Prop :=
  (∀ s : State, step s = .next (computerStep s)) ∧
  (∀ (n : Nat) (s : State), runCycles n s = .next (datapathRun n s))

/-- R113: no instruction word is refused or faults, in any state. -/
def Obligations.EveryWordExecutesInEveryState : Prop :=
  ∀ (w : Word16) (s : State), ∃ t, exec (decode w) s = .next t

/-- R130: `@v`, by its word and by its whole effect; A's bit 15 is 0 after it. -/
def Obligations.AInstructionLoadsTheLiteral : Prop :=
  ∀ (v : Word15) (s : State),
    encode (.aInstr v) = BitVec.ofNat 16 v.toNat ∧ decode (BitVec.ofNat 16 v.toNat) = .aInstr v ∧
      exec (.aInstr v) s =
        .next
          { regA := BitVec.ofNat 16 v.toNat
            regD := s.regD
            pc := if resetPin s then 0#15 else s.pc + 1#15
            ram := s.ram
            rom := s.rom
            resetIn := s.resetIn.tail } ∧
      (BitVec.ofNat 16 v.toNat).getLsbD 15 = false

/-- R160: the compute-instruction, for every comp, dest and jump, in every state. -/
def Obligations.ComputeInstructionGeneralRule : Prop :=
  ∀ (a : Bool) (c : BitVec 6) (f : CFields) (s : State),
    exec (decode (cWord a c f)) s =
      .next (afterCompute s f (aluIn s a c).out (aluIn s a c).zr (aluIn s a c).ng)

/-! ## The comps -/

/-- R180 to R185: the constants 0, 1, -1 and the copies of D, A, M. -/
def Obligations.CompConstantsAndCopies : Prop :=
  Performs .comp0 false 0b101010#6 (fun _ _ => 0x0000#16) ∧
  Performs .comp1 false 0b111111#6 (fun _ _ => 0x0001#16) ∧
  Performs .compNeg1 false 0b111010#6 (fun _ _ => 0xFFFF#16) ∧
  Performs .compD false 0b001100#6 (fun x _ => x) ∧
  Performs .compA false 0b110000#6 (fun _ y => y) ∧
  Performs .compM true 0b110000#6 (fun _ y => y)

/-- R186 to R188: bitwise NOT. -/
def Obligations.CompBitwiseNots : Prop :=
  Performs .compNotD false 0b001101#6 (fun x _ => ~~~x) ∧
  Performs .compNotA false 0b110001#6 (fun _ y => ~~~y) ∧
  Performs .compNotM true 0b110001#6 (fun _ y => ~~~y)

/-- R189 to R191: `(0 - v) mod 2^16`. -/
def Obligations.CompNegations : Prop :=
  Performs .compNegD false 0b001111#6 (fun x _ => 0#16 - x) ∧
  Performs .compNegA false 0b110011#6 (fun _ y => 0#16 - y) ∧
  Performs .compNegM true 0b110011#6 (fun _ y => 0#16 - y)

/-- R192 to R194: `(v + 1) mod 2^16`. -/
def Obligations.CompIncrements : Prop :=
  Performs .compDInc false 0b011111#6 (fun x _ => x + 1#16) ∧
  Performs .compAInc false 0b110111#6 (fun _ y => y + 1#16) ∧
  Performs .compMInc true 0b110111#6 (fun _ y => y + 1#16)

/-- R195 to R197: `(v - 1) mod 2^16`. -/
def Obligations.CompDecrements : Prop :=
  Performs .compDDec false 0b001110#6 (fun x _ => x - 1#16) ∧
  Performs .compADec false 0b110010#6 (fun _ y => y - 1#16) ∧
  Performs .compMDec true 0b110010#6 (fun _ y => y - 1#16)

/-- R198 to R203: sums and differences modulo 2^16. -/
def Obligations.CompSumsAndDifferences : Prop :=
  Performs .compDPlusA false 0b000010#6 (fun x y => x + y) ∧
  Performs .compDPlusM true 0b000010#6 (fun x y => x + y) ∧
  Performs .compDMinusA false 0b010011#6 (fun x y => x - y) ∧
  Performs .compDMinusM true 0b010011#6 (fun x y => x - y) ∧
  Performs .compAMinusD false 0b000111#6 (fun x y => y - x) ∧
  Performs .compMMinusD true 0b000111#6 (fun x y => y - x)

/-- R204 to R207: bitwise AND and OR. -/
def Obligations.CompAndsAndOrs : Prop :=
  Performs .compDAndA false 0b000000#6 (fun x y => x &&& y) ∧
  Performs .compDAndM true 0b000000#6 (fun x y => x &&& y) ∧
  Performs .compDOrA false 0b010101#6 (fun x y => x ||| y) ∧
  Performs .compDOrM true 0b010101#6 (fun x y => x ||| y)

/-- R208 (the spec derives it from R171 and R79; how they are printed is its decision D16): the eight a = 1 aliases,
by their words and results, each as its a = 0 instruction, and how a printer spells them. -/
def Obligations.AliasesComputeAsWithAZero : Prop :=
  Performs .alias0 true 0b101010#6 (fun _ _ => 0x0000#16) ∧
  Performs .alias1 true 0b111111#6 (fun _ _ => 0x0001#16) ∧
  Performs .aliasNeg1 true 0b111010#6 (fun _ _ => 0xFFFF#16) ∧
  Performs .aliasD true 0b001100#6 (fun x _ => x) ∧
  Performs .aliasNotD true 0b001101#6 (fun x _ => ~~~x) ∧
  Performs .aliasNegD true 0b001111#6 (fun x _ => 0#16 - x) ∧
  Performs .aliasDInc true 0b011111#6 (fun x _ => x + 1#16) ∧
  Performs .aliasDDec true 0b001110#6 (fun x _ => x - 1#16) ∧
  (∀ (f : CFields) (s : State),
    exec (.alias0 f) s = exec (.comp0 f) s ∧ exec (.alias1 f) s = exec (.comp1 f) s ∧
    exec (.aliasNeg1 f) s = exec (.compNeg1 f) s ∧ exec (.aliasD f) s = exec (.compD f) s ∧
    exec (.aliasNotD f) s = exec (.compNotD f) s ∧ exec (.aliasNegD f) s = exec (.compNegD f) s ∧
    exec (.aliasDInc f) s = exec (.compDInc f) s ∧ exec (.aliasDDec f) s = exec (.compDDec f) s) ∧
  (∀ c ∈ [0b101010#6, 0b111111#6, 0b111010#6, 0b001100#6, 0b001101#6, 0b001111#6, 0b011111#6,
      0b001110#6], spellComp true c = ((spellComp false c).1, "; a=1"))

/-- R209 (the spec derives its table from R171), the rows with c1 c2 = 00, for a = 0 and a = 1. -/
def Obligations.NonDocumentedCodesWithPlainX : Prop :=
  PerformsBoth .alu000001 0b000001#6 (fun x y => ~~~(x &&& y)) ∧
  PerformsBoth .alu000011 0b000011#6 (fun x y => 0#16 - x - y - 1#16) ∧
  PerformsBoth .alu000100 0b000100#6 (fun x y => x &&& ~~~y) ∧
  PerformsBoth .alu000101 0b000101#6 (fun x y => ~~~x ||| y) ∧
  PerformsBoth .alu000110 0b000110#6 (fun x y => x - y - 1#16) ∧
  PerformsBoth .alu001000 0b001000#6 (fun _ _ => 0x0000#16) ∧
  PerformsBoth .alu001001 0b001001#6 (fun _ _ => 0xFFFF#16) ∧
  PerformsBoth .alu001010 0b001010#6 (fun x _ => x) ∧
  PerformsBoth .alu001011 0b001011#6 (fun x _ => ~~~x)

/-- R209 (the spec derives its table from R171), the rows with c1 c2 = 01, for a = 0 and a = 1. -/
def Obligations.NonDocumentedCodesWithNegatedX : Prop :=
  PerformsBoth .alu010000 0b010000#6 (fun x y => ~~~x &&& y) ∧
  PerformsBoth .alu010001 0b010001#6 (fun x y => x ||| ~~~y) ∧
  PerformsBoth .alu010010 0b010010#6 (fun x y => y - x - 1#16) ∧
  PerformsBoth .alu010100 0b010100#6 (fun x y => ~~~(x ||| y)) ∧
  PerformsBoth .alu010110 0b010110#6 (fun x y => 0#16 - x - y - 2#16) ∧
  PerformsBoth .alu010111 0b010111#6 (fun x y => x + y + 1#16) ∧
  PerformsBoth .alu011000 0b011000#6 (fun _ _ => 0x0000#16) ∧
  PerformsBoth .alu011001 0b011001#6 (fun _ _ => 0xFFFF#16) ∧
  PerformsBoth .alu011010 0b011010#6 (fun x _ => ~~~x) ∧
  PerformsBoth .alu011011 0b011011#6 (fun x _ => x) ∧
  PerformsBoth .alu011100 0b011100#6 (fun x _ => ~~~x) ∧
  PerformsBoth .alu011101 0b011101#6 (fun x _ => x) ∧
  PerformsBoth .alu011110 0b011110#6 (fun x _ => 0#16 - x - 2#16)

/-- R209 (the spec derives its table from R171), the rows with c1 c2 = 10, for a = 0 and a = 1. -/
def Obligations.NonDocumentedCodesWithZeroX : Prop :=
  PerformsBoth .alu100000 0b100000#6 (fun _ _ => 0x0000#16) ∧
  PerformsBoth .alu100001 0b100001#6 (fun _ _ => 0xFFFF#16) ∧
  PerformsBoth .alu100010 0b100010#6 (fun _ y => y) ∧
  PerformsBoth .alu100011 0b100011#6 (fun _ y => ~~~y) ∧
  PerformsBoth .alu100100 0b100100#6 (fun _ _ => 0x0000#16) ∧
  PerformsBoth .alu100101 0b100101#6 (fun _ _ => 0xFFFF#16) ∧
  PerformsBoth .alu100110 0b100110#6 (fun _ y => ~~~y) ∧
  PerformsBoth .alu100111 0b100111#6 (fun _ y => y) ∧
  PerformsBoth .alu101000 0b101000#6 (fun _ _ => 0x0000#16) ∧
  PerformsBoth .alu101001 0b101001#6 (fun _ _ => 0xFFFF#16) ∧
  PerformsBoth .alu101011 0b101011#6 (fun _ _ => 0xFFFF#16) ∧
  PerformsBoth .alu101100 0b101100#6 (fun _ _ => 0x0000#16) ∧
  PerformsBoth .alu101101 0b101101#6 (fun _ _ => 0xFFFF#16) ∧
  PerformsBoth .alu101110 0b101110#6 (fun _ _ => 0xFFFF#16) ∧
  PerformsBoth .alu101111 0b101111#6 (fun _ _ => 0x0000#16)

/-- R209 (the spec derives its table from R171), the rows with c1 c2 = 11, for a = 0 and a = 1. -/
def Obligations.NonDocumentedCodesWithAllOnesX : Prop :=
  PerformsBoth .alu110100 0b110100#6 (fun _ y => ~~~y) ∧
  PerformsBoth .alu110101 0b110101#6 (fun _ y => y) ∧
  PerformsBoth .alu110110 0b110110#6 (fun _ y => 0#16 - y - 2#16) ∧
  PerformsBoth .alu111000 0b111000#6 (fun _ _ => 0x0000#16) ∧
  PerformsBoth .alu111001 0b111001#6 (fun _ _ => 0xFFFF#16) ∧
  PerformsBoth .alu111011 0b111011#6 (fun _ _ => 0x0000#16) ∧
  PerformsBoth .alu111100 0b111100#6 (fun _ _ => 0xFFFF#16) ∧
  PerformsBoth .alu111101 0b111101#6 (fun _ _ => 0x0000#16) ∧
  PerformsBoth .alu111110 0b111110#6 (fun _ _ => 0xFFFE#16)

/-- R175: the 18 documented functions of the ALU, by their control bits, for all operands.
The ALU is the default that the spec supplies (D1; log entry 6). -/
def Obligations.DocumentedAluFunctions : Prop :=
  ∀ x y : Word16,
    (alu x y 0b101010#6).out = 0#16 ∧ (alu x y 0b111111#6).out = 1#16 ∧
    (alu x y 0b111010#6).out = 0#16 - 1#16 ∧ (alu x y 0b001100#6).out = x ∧
    (alu x y 0b110000#6).out = y ∧ (alu x y 0b001101#6).out = ~~~x ∧
    (alu x y 0b110001#6).out = ~~~y ∧ (alu x y 0b001111#6).out = -x ∧
    (alu x y 0b110011#6).out = -y ∧ (alu x y 0b011111#6).out = x + 1#16 ∧
    (alu x y 0b110111#6).out = y + 1#16 ∧ (alu x y 0b001110#6).out = x - 1#16 ∧
    (alu x y 0b110010#6).out = y - 1#16 ∧ (alu x y 0b000010#6).out = x + y ∧
    (alu x y 0b010011#6).out = x - y ∧ (alu x y 0b000111#6).out = y - x ∧
    (alu x y 0b000000#6).out = x &&& y ∧ (alu x y 0b010101#6).out = x ||| y

/-- R172 (the spec's decision D2; log entry 6) and R173 (derived from it): the flags of every ALU result, read as
two's complement; exactly one of `ng`, `zr`, `pos` is 1; and
what follows for `JMP`, `JGE` and `JNE`. -/
def Obligations.FlagsTellTheSignOfTheResult : Prop :=
  ∀ (x y : Word16) (c : BitVec 6),
    let r := alu x y c
    let pos := positiveSignal r.zr r.ng
    (r.zr = true ↔ r.out = 0#16) ∧ r.ng = r.out.getLsbD 15 ∧
    (r.ng = true ↔ r.out.toInt < 0) ∧ (r.zr = true ↔ r.out.toInt = 0) ∧
    (pos = true ↔ 0 < r.out.toInt) ∧
    ((r.ng = true ∧ r.zr = false ∧ pos = false) ∨ (r.ng = false ∧ r.zr = true ∧ pos = false) ∨
      (r.ng = false ∧ r.zr = false ∧ pos = true)) ∧
    jumpCondition Jump.JMP r.zr r.ng = true ∧ jumpCondition Jump.JGE r.zr r.ng = !r.ng ∧
    jumpCondition Jump.JNE r.zr r.ng = !r.zr ∧
    (alu 0x7FFF#16 y 0b011111#6).out = 0x8000#16 ∧ (alu 0x7FFF#16 y 0b011111#6).ng = true

/-! ## Destinations, jumps and the old A -/

/-- R140 to R144, R146, R147: what each dest but `AM` stores, and that it stores nothing else; the memory word is at
the old `A[14:0]`. -/
def Obligations.DestinationsReceiveTheResult : Prop :=
  Stores Dest.none (fun s _ t => t.regA = s.regA ∧ t.regD = s.regD ∧ MemoryKept s t) ∧
  Stores Dest.M (fun s out t => t.regA = s.regA ∧ t.regD = s.regD ∧ WroteAtOldA s out t) ∧
  Stores Dest.D (fun s out t => t.regA = s.regA ∧ t.regD = out ∧ MemoryKept s t) ∧
  Stores Dest.MD (fun s out t => t.regA = s.regA ∧ t.regD = out ∧ WroteAtOldA s out t) ∧
  Stores Dest.A (fun s out t => t.regA = out ∧ t.regD = s.regD ∧ MemoryKept s t) ∧
  Stores Dest.AD (fun s out t => t.regA = out ∧ t.regD = out ∧ MemoryKept s t) ∧
  Stores Dest.AMD (fun s out t => t.regA = out ∧ t.regD = out ∧ WroteAtOldA s out t)

/-- R145 (the spec's own inference from R103, R109 and R110): dest `AM` writes the word at the old `A[14:0]`, never at
the new one. -/
def Obligations.DestinationAMWritesAtTheOldA : Prop :=
  Stores Dest.AM (fun s out t => t.regA = out ∧ t.regD = s.regD ∧ WroteAtOldA s out t)

/-- R150 to R156: when each jump but `JMP` is taken, by the flags of the instruction's own result; for `JGE` and `JNE`
also in the shorter form the rule gives. -/
def Obligations.JumpsAreTakenByTheirConditions : Prop :=
  JumpsWhen Jump.none (fun _ _ => false) ∧
  JumpsWhen Jump.JGT (fun zr ng => !zr && !ng) ∧
  JumpsWhen Jump.JEQ (fun zr _ => zr) ∧
  JumpsWhen Jump.JGE (fun zr ng => zr || (!zr && !ng)) ∧ JumpsWhen Jump.JGE (fun _ ng => !ng) ∧
  JumpsWhen Jump.JLT (fun _ ng => ng) ∧
  JumpsWhen Jump.JNE (fun zr ng => ng || (!zr && !ng)) ∧ JumpsWhen Jump.JNE (fun zr _ => !zr) ∧
  JumpsWhen Jump.JLE (fun zr ng => ng || zr)

/-- R157 (the spec's own inference from R107): `JMP` is taken for every result, by its formula and in short; reset
still overrides it. -/
def Obligations.JmpIsAlwaysTaken : Prop :=
  JumpsWhen Jump.JMP (fun zr ng => ng || zr || (!zr && !ng)) ∧ JumpsWhen Jump.JMP (fun _ _ => true)

/-- R158 (the spec derives it from R100 and R108, with its decision D6; log entry 9): a taken jump goes to the old
`A[14:0]` though the same instruction loads A, and A[15] is dropped; and the rule's example `A=A+1;JMP`. -/
def Obligations.JumpTargetIsTheOldA : Prop :=
  (∀ (a : Bool) (c : BitVec 6) (ignored : BitVec 2) (dD dM : Bool) (s : State),
    ∃ t, exec (decode (cWord a c ⟨ignored, ⟨true, dD, dM⟩, Jump.JMP⟩)) s = .next t ∧
      t.regA = (aluIn s a c).out ∧
      t.pc = if resetPin s then 0#15 else BitVec.ofNat 15 (s.regA.toNat % 32768)) ∧
  (∀ (ignored : BitVec 2) (s : State), s.regA = 16#16 → resetPin s = false →
    ∃ t, exec (.compAInc ⟨ignored, Dest.A, Jump.JMP⟩) s = .next t ∧ t.pc = 16#15 ∧
      t.regA = 17#16)

/-- R159 (the spec derives it from R104 and R108): one instruction may use M and jump: both use the same old
`A[14:0]`; and the rule's example `M=M-1;JGT`, which decrements the word at A and jumps to A if the new value is
positive. -/
def Obligations.JumpAndMemoryUseTheSameA : Prop :=
  (∀ (c : BitVec 6) (ignored : BitVec 2) (dA dD : Bool) (s : State),
    ∃ t, exec (decode (cWord true c ⟨ignored, ⟨dA, dD, true⟩, Jump.JMP⟩)) s = .next t ∧
      ∃ p : Word15, p = s.regA.extractLsb' 0 15 ∧
        Memory.read t.ram p = (alu s.regD (Memory.read s.ram p) c).out ∧
        t.pc = if resetPin s then 0#15 else p) ∧
  (∀ (ignored : BitVec 2) (s : State),
    ∃ t, exec (.compMDec ⟨ignored, Dest.M, Jump.JGT⟩) s = .next t ∧
      ∃ p : Word15, p = s.regA.extractLsb' 0 15 ∧
        Memory.read t.ram p = Memory.read s.ram p - 1#16 ∧
        t.pc = if resetPin s then 0#15
          else if 0 < (Memory.read s.ram p - 1#16).toInt then p else s.pc + 1#15)

/-- R52 (the spec derives it from R50 and R51): an instruction that reads and writes the word at A reads the old
word, and the new one is there afterwards; `M=M+1` stores the old word plus one. -/
def Obligations.ReadDuringWriteSeesTheOldWord : Prop :=
  (∀ (c : BitVec 6) (f : CFields) (s : State), f.dest.dM = true →
    ∃ t, exec (decode (cWord true c f)) s = .next t ∧
      Memory.read t.ram (s.regA.extractLsb' 0 15) =
        (alu s.regD (Memory.read s.ram (s.regA.extractLsb' 0 15)) c).out) ∧
  (∀ (ignored : BitVec 2) (j : Jump) (s : State),
    ∃ t, exec (.compMInc ⟨ignored, Dest.M, j⟩) s = .next t ∧
      Memory.read t.ram (s.regA.extractLsb' 0 15) =
        Memory.read s.ram (s.regA.extractLsb' 0 15) + 1#16)

/-- R161 (the spec derives it from R104, R109 and R110): of data memory an instruction can learn only the word at
`A[14:0]`: with another memory that holds the same word there, it leaves the same registers and the same word at
that address. -/
def Obligations.OnlyTheWordAtAIsRead : Prop :=
  ∀ (i : Instr) (s : State) (m : Memory),
    Memory.read m (s.regA.extractLsb' 0 15) = Memory.read s.ram (s.regA.extractLsb' 0 15) →
    ∃ t t', exec i s = .next t ∧ exec i { s with ram := m } = .next t' ∧
      t'.regA = t.regA ∧ t'.regD = t.regD ∧ t'.pc = t.pc ∧
      ∀ x : Word15, Memory.read t'.ram x =
        if x = s.regA.extractLsb' 0 15 then Memory.read t.ram x else Memory.read m x

/-- R53: the memory word is used only by a compute-instruction with a-bit 1: for every other word, data memory
changes no register. -/
def Obligations.MemoryIsUsedOnlyWithTheABit : Prop :=
  ∀ (w : Word16) (s : State) (m : Memory), (w.getLsbD 15 && w.getLsbD 12) = false →
    ∃ t t', exec (decode w) s = .next t ∧ exec (decode w) { s with ram := m } = .next t' ∧
      t'.regA = t.regA ∧ t'.regD = t.regD ∧ t'.pc = t.pc

/-! ## The datapath over any ALU -/

/-- R115 (the spec derives it from R111): the source's five properties, for every ALU function, register contents,
word, memory word and reset bit. -/
def Obligations.DatapathLawsForEveryAlu : Prop :=
  ∀ (f : AluFn) (s : CpuRegs) (w inM : Word16) (reset : Bool),
    let k := cpuStep f s w inM reset
    let r := f s.regD (if w.getLsbD 12 then inM else s.regA) (w.extractLsb' 6 6)
    (w.getLsbD 15 = false →
      k.after.regA = (w.extractLsb' 0 15).setWidth 16 ∧ k.writeM = false) ∧
    (w.getLsbD 15 = true → k.writeM = w.getLsbD 3 ∧ k.outM = r.out) ∧
    (jumpSignal (decoder w) r.zr r.ng = (w.getLsbD 15 && ((w.getLsbD 0 && (!r.zr && !r.ng)) ||
      (w.getLsbD 1 && r.zr) || (w.getLsbD 2 && r.ng)))) ∧
    (reset = false → k.after.pc =
      if w.getLsbD 15 && ((w.getLsbD 0 && (!r.zr && !r.ng)) || (w.getLsbD 1 && r.zr) ||
        (w.getLsbD 2 && r.ng)) then s.regA.extractLsb' 0 15 else s.pc + 1#15) ∧
    (reset = true → k.after.pc = 0#15) ∧
    (let k0 := cpuStep f s w inM false;
      k.after.regA = k0.after.regA ∧ k.after.regD = k0.after.regD ∧ k.writeM = k0.writeM ∧
        k.addressM = k0.addressM ∧ (k.writeM = true → k.outM = k0.outM)) ∧
    (w.getLsbD 15 = true →
      (w.getLsbD 4 = false → k.after.regD = s.regD) ∧
      (w.getLsbD 5 = false → k.after.regA = s.regA))

/-- R117 (the spec derives it from R102, R103, R106 and R109): the three rows of the register-file control table. -/
def Obligations.RegisterFileControlTable : Prop :=
  ∀ w out : Word16,
    let g := decoder w
    (w.getLsbD 15 = false → loadA g = true ∧
      aInput g w out = (w.extractLsb' 0 15).setWidth 16 ∧ loadD g = false ∧
      writeMSignal g = false) ∧
    (w.getLsbD 15 = true → w.getLsbD 5 = false →
      loadA g = false ∧ loadD g = w.getLsbD 4 ∧ writeMSignal g = w.getLsbD 3) ∧
    (w.getLsbD 15 = true → w.getLsbD 5 = true →
      loadA g = true ∧ aInput g w out = out ∧ loadD g = w.getLsbD 4 ∧
      writeMSignal g = w.getLsbD 3)

/-- R109, R110 (with the spec's decision D5; log entry 11): the ports: `writeM`, `outM`, and the held values
`addressM = A[14:0]` and `pc = PC`. -/
def Obligations.PortsShowHeldValues : Prop :=
  ∀ (f : AluFn) (s : CpuRegs) (w inM : Word16) (reset : Bool),
    let k := cpuStep f s w inM reset
    k.addressM = s.regA.extractLsb' 0 15 ∧ k.pc = s.pc ∧
    (k.writeM = true ↔ w.getLsbD 15 = true ∧ w.getLsbD 3 = true) ∧
    (k.writeM = true →
      k.outM = (f s.regD (if w.getLsbD 12 then inM else s.regA) (w.extractLsb' 6 6)).out)

/-! ## Memory -/

/-- R40, R41, R42, R43: the primitives meet their contracts.
The truth functions and the index order are the spec's own (D11; log entry 13). -/
def Obligations.PrimitivesMeetTheirContracts : Prop :=
  (∀ a b sel : Bool,
    gateNot a = !a ∧ gateAnd a b = (a && b) ∧ gateOr a b = (a || b) ∧
    gateMux a b sel = (if sel = false then a else b) ∧
    gateDMux a sel = (if sel = false then (a, false) else (false, a))) ∧
  (∀ (a b : Word16) (sel : Bool),
    gateNot16 a = ~~~a ∧ gateAnd16 a b = a &&& b ∧ gateOr16 a b = a ||| b ∧
    gateMux16 a b sel = (if sel = false then a else b)) ∧
  (∀ (inputs : Fin 8 → Word16) (sel : BitVec 3) (i : Fin 8), i.val = sel.toNat →
    mux8Way16 inputs sel = inputs i) ∧
  (∀ (inp : Bool) (sel : BitVec 3) (i : Fin 8),
    dMux8Way inp sel i = if i.val = sel.toNat then inp else false) ∧
  (∀ (w : Nat) (r inp : BitVec w) (load : Bool),
    registerEdge r inp load = if load = true then inp else r)

/-- R50, R51: in a block of any number of levels a write changes the addressed word only, and nothing when `load` is
0; the next read of an address gives what its cell then holds. -/
def Obligations.BlockWriteChangesOneWord : Prop :=
  ∀ (L : Nat) (b : Block L) (inp : Word16) (load : Bool) (x y : BitVec (3 * L)),
    blockOut L (blockEdge L b inp load x) y =
      if load = true ∧ y = x then inp else blockOut L b y

/-- R46 (the spec derives it from R42 and R45): of a node's eight children only the addressed one observes the
node's `load`; over a whole block exactly one leaf is loaded when `load` is 1, and none when it is 0. -/
def Obligations.AtMostOneLeafIsLoaded : Prop :=
  (∀ (load : Bool) (hi : BitVec 3) (i : Fin 8),
    (i.val = hi.toNat → dMux8Way load hi i = load) ∧
    (i.val ≠ hi.toNat → dMux8Way load hi i = false)) ∧
  (∀ (L : Nat) (load : Bool) (x : BitVec (3 * L)),
    (leafLoads L load x).length = 8 ^ L ∧
    (leafLoads L load x).count true = if load then 1 else 0)

/-- R47 (the spec derives it from R44 and R45): a block is a flat array: its leaves read in order are the cells 0,
1, …, which a write sets as in a list; the word at `X` is in the leaf that the path of `X` reaches, and that path is
the base-8 digits of `X`, the most significant at the top. -/
def Obligations.BlockIsAFlatArray : Prop :=
  ∀ (L : Nat) (b : Block L) (inp : Word16) (load : Bool) (x : BitVec (3 * L)),
    (blockLeaves L b)[x.toNat]? = some (blockOut L b x) ∧
    blockLeaves L (blockEdge L b inp load x) =
      (if load = true then (blockLeaves L b).set x.toNat inp else blockLeaves L b) ∧
    leafAt L b (childPath L x.toNat) = some (blockOut L b x) ∧
    childPath L x.toNat = (List.range L).reverse.map (fun j => x.toNat / 8 ^ j % 8)

/-- R48: a block of `L` levels holds `8^L` words: 1, 8, 64, 512, 4096 and 32768 for 0 to 5 levels, with 0 to 15
address bits. -/
def Obligations.BlockHoldsEightToTheLWords : Prop :=
  (∀ (L : Nat) (b : Block L), (blockLeaves L b).length = 8 ^ L) ∧
  [0, 1, 2, 3, 4, 5].map (fun L => 8 ^ L) = [1, 8, 64, 512, 4096, 32768] ∧
  [0, 1, 2, 3, 4, 5].map (fun L => 3 * L) = [0, 3, 6, 9, 12, 15]

/-- R30, R54 (with the spec's decisions D3 and D4; log entries 5 and 12): the machine and the computer wired to the
recursive RAM32K block go on holding the same registers and the same words, cycle by cycle. -/
def Obligations.WiredComputerSimulatesTheMachine : Prop :=
  ∀ (s : State) (c : WiredComputer), Wires s c →
    ∃ t, step s = .next t ∧ Wires t (wiredStep alu s.rom (resetPin s) c)

/-- R26, R54: every state's data memory is held by some RAM32K block. -/
def Obligations.EveryStateHasAWiredComputer : Prop :=
  ∀ s : State, ∃ c : WiredComputer, Wires s c

/-- R55 and the model's canonical form (log entry 1): two well-formed memories that read alike are the same data. -/
def Obligations.MemoriesThatReadAlikeAreEqual : Prop :=
  ∀ m m' : Memory, Memory.wf m = true → Memory.wf m' = true →
    (∀ x : Word15, Memory.read m x = Memory.read m' x) → m = m'

/-- R58: after any number of cycles a word is the latest write to its address in those cycles, and its value at the
start if there was none. -/
def Obligations.ReadsReturnTheLatestWrite : Prop :=
  ∀ (n : Nat) (s t : State), runCycles n s = .next t →
    ∀ x : Word15, Memory.read t.ram x = latestWrite (writesLatestFirst n s) s.ram x

/-- R60 (the spec's decision D3; log entry 5): no run changes an instruction word: what is fetched at an address
never changes. -/
def Obligations.StoresNeverChangeFetchedInstructions : Prop :=
  ∀ (n : Nat) (s t : State), runCycles n s = .next t →
    t.rom = s.rom ∧ ∀ p : Word15, fetch { t with pc := p } = fetch { s with pc := p }

/-- R233: a program the host loads before the run is what PC fetches, word by word. -/
def Obligations.LoadedProgramIsFetched : Prop :=
  ∀ (s : State) (words : List Word16) (p : Word15) (w : Word16), words[p.toNat]? = some w →
    fetch { loadProgram s words with pc := p } = w

/-! ## Frames and invariants -/

/-- R130, R117: what an A-instruction leaves unchanged: D, ROM and every word of memory. -/
def Obligations.AInstructionFrame : Prop :=
  ∀ (v : Word15) (s t : State), exec (.aInstr v) s = .next t →
    t.regD = s.regD ∧ t.rom = s.rom ∧ ∀ x : Word15, Memory.read t.ram x = Memory.read s.ram x

/-- R115, R51 (the frame; R115 is derived from R111): what a compute-instruction (each of the 82 other instructions)
leaves unchanged: a register that is no destination, ROM, and every word of memory but the one at `addressM`, for a
form that stores; every word for a form that does not. -/
def Obligations.ComputeInstructionFrame : Prop :=
  ∀ (i : Instr) (a : Bool) (c : BitVec 6) (f : CFields) (s t : State),
    formOf i = .c a c f → exec i s = .next t →
      (f.dest.dA = false → t.regA = s.regA) ∧ (f.dest.dD = false → t.regD = s.regD) ∧
      t.rom = s.rom ∧ t.resetIn = s.resetIn.tail ∧
      (∀ x : Word15, f.dest.dM = false ∨ x ≠ addressM s →
        Memory.read t.ram x = Memory.read s.ram x)

/-- The model's invariant (log entry 1): every step keeps RAM and ROM in canonical form. -/
def Obligations.StepKeepsMemoriesCanonical : Prop :=
  ∀ s t : State, s.wf = true → step s = .next t → t.wf = true

/-- The state after reset meets the invariant, and its PC is 0 (R240).
That A, D and RAM are 0, no program is loaded and the pin is released is the model's choice: log entries 2, 3, 4, 5
and 14. -/
def Obligations.ResetStateIsWellFormed : Prop :=
  State.reset.wf = true ∧ State.reset.pc = 0#15 ∧ State.reset.regA = 0#16 ∧
    State.reset.regD = 0#16 ∧ (∀ x : Word15, Memory.read State.reset.ram x = 0#16) ∧
    State.reset.rom = [] ∧ State.reset.resetIn = []

/-! ## Reset and the end of a run -/

/-- R240, R241 (the spec's decision D9; log entry 10): in a cycle with reset asserted the next PC is 0, so that the
next fetch is `ROM[0]`, whatever the instruction; A, D and memory are exactly what the same cycle without reset
leaves. -/
def Obligations.ResetForcesOnlyThePc : Prop :=
  ∀ (i : Instr) (s : State) (rest : List Bool),
    ∃ t u, exec i { s with resetIn := true :: rest } = .next t ∧
      exec i { s with resetIn := false :: rest } = .next u ∧
      t.pc = 0#15 ∧ fetch t = Memory.read s.rom 0#15 ∧
      t.regA = u.regA ∧ t.regD = u.regD ∧ t.ram = u.ram ∧ t.rom = u.rom ∧
      t.resetIn = u.resetIn

/-- R245 (the spec derives it from R240 and R241): reset held for `n + 1` cycles: the first executes `ROM[PC]`; PC
is 0 after every one; each later one, and the first cycle after them, executes `ROM[0]`; in that cycle PC advances,
or takes the jump of `ROM[0]`. -/
def Obligations.ResetHeldExecutesRomZero : Prop :=
  ∀ (n : Nat) (s : State) (rest : List Bool), s.resetIn = List.replicate (n + 1) true ++ rest →
    step s = exec (decode (Memory.read s.rom s.pc)) s ∧
    ∀ k, k ≤ n → ∃ t, runCycles (k + 1) s = .next t ∧ t.pc = 0#15 ∧
      t.resetIn = List.replicate (n - k) true ++ rest ∧
      step t = exec (decode (Memory.read s.rom 0#15)) t ∧
      (k = n → rest.headD false = false →
        ∃ u, step t = .next u ∧ (u.pc = 1#15 ∨ u.pc = t.regA.extractLsb' 0 15))

/-- R229 (its conditions are the spec's decision D14; log entry 20): from every state that meets them the first cycle
sets A to the label; from then on A, D and RAM never change and PC alternates between the label and its successor. -/
def Obligations.TerminalLoopRepeats : Prop :=
  ∀ (s : State) (l : Word15), AtTerminalLoop s l → ∀ n : Nat,
    ∃ t, runCycles (n + 1) s = .next t ∧ t.regA = l.setWidth 16 ∧ t.regD = s.regD ∧
      t.ram = s.ram ∧ t.pc = if n % 2 = 0 then l + 1#15 else l

/-! ## Notation -/

/-- R82: the canonical assembler emits compute words with bits 15..13 = `111` and a documented comp only. -/
def Obligations.AssemblerEmitsCanonicalWords : Prop :=
  ∀ (dest comp jump : String) (w : Word16), assembleCompute dest comp jump = some w →
    w.extractLsb' 13 3 = 0b111#3 ∧ (decode w).canonical = true

/-! ## The end of a run -/

/-- R229 (the spec's decision D14; log entry 20): the end of a run is its FIRST state that meets the four conditions:
the search over the first `bound` states of the run answers `n` exactly when the run has ended after `n` cycles and
`n` is below the bound. -/
def Obligations.EndCycleIsTheFirstTerminalLoop : Prop :=
  ∀ (bound n : Nat) (s : State), endCycle bound s = some n ↔ n < bound ∧ ∃ t, RunEnds s n t

/-- R229 (the spec's decision D14; log entry 20): a run ends at most once, at one cycle and one state; and in every
cycle after its end A is the label, D and RAM are those of its end, and PC alternates between the label and its
successor. -/
def Obligations.EndedRunHasOneEndAndRepeats : Prop :=
  ∀ (s t : State) (n : Nat), RunEnds s n t →
    (∀ (m : Nat) (u : State), RunEnds s m u → m = n ∧ u = t) ∧
    ∀ k : Nat, ∃ u, runCycles (n + k + 1) s = .next u ∧ u.regA = t.pc.setWidth 16 ∧ u.regD = t.regD ∧
      u.ram = t.ram ∧ u.pc = if k % 2 = 0 then t.pc + 1#15 else t.pc
end

