-- ==== Sys2Proof/Laws/State.lean ====
section
/-! SUPPORT. One lemma per field per update of the state, true by rfl, so that no proof unfolds a record update. -/

namespace Sys2Proof.Machine

@[simp] theorem clockEdge_regA (s : State) (w : Writes) :
    (clockEdge s w).regA = if w.loadA then w.inA else s.regA := rfl

@[simp] theorem clockEdge_regD (s : State) (w : Writes) :
    (clockEdge s w).regD = if w.loadD then w.inD else s.regD := rfl

@[simp] theorem clockEdge_pc (s : State) (w : Writes) :
    (clockEdge s w).pc = nextPc (resetPin s) w.jump s.regA s.pc := rfl

@[simp] theorem clockEdge_ram (s : State) (w : Writes) :
    (clockEdge s w).ram = if w.writeM then Memory.write s.ram (addressM s) w.outM else s.ram := rfl

@[simp] theorem clockEdge_rom (s : State) (w : Writes) : (clockEdge s w).rom = s.rom := rfl

@[simp] theorem clockEdge_resetIn (s : State) (w : Writes) :
    (clockEdge s w).resetIn = s.resetIn.tail := rfl

@[simp] theorem loadProgram_regA (s : State) (p : List Word16) : (loadProgram s p).regA = s.regA := rfl

@[simp] theorem loadProgram_regD (s : State) (p : List Word16) : (loadProgram s p).regD = s.regD := rfl

@[simp] theorem loadProgram_pc (s : State) (p : List Word16) : (loadProgram s p).pc = s.pc := rfl

@[simp] theorem loadProgram_ram (s : State) (p : List Word16) : (loadProgram s p).ram = s.ram := rfl

@[simp] theorem loadProgram_rom (s : State) (p : List Word16) : (loadProgram s p).rom = romOf p := rfl

@[simp] theorem loadProgram_resetIn (s : State) (p : List Word16) :
    (loadProgram s p).resetIn = s.resetIn := rfl

@[simp] theorem driveReset_regA (s : State) (b : List Bool) : (driveReset s b).regA = s.regA := rfl

@[simp] theorem driveReset_regD (s : State) (b : List Bool) : (driveReset s b).regD = s.regD := rfl

@[simp] theorem driveReset_pc (s : State) (b : List Bool) : (driveReset s b).pc = s.pc := rfl

@[simp] theorem driveReset_ram (s : State) (b : List Bool) : (driveReset s b).ram = s.ram := rfl

@[simp] theorem driveReset_rom (s : State) (b : List Bool) : (driveReset s b).rom = s.rom := rfl

@[simp] theorem driveReset_resetIn (s : State) (b : List Bool) : (driveReset s b).resetIn = b := rfl

@[simp] theorem withFetchWord_regA (s : State) (n w : Nat) : (s.withFetchWord n w).regA = s.regA := rfl

@[simp] theorem withFetchWord_regD (s : State) (n w : Nat) : (s.withFetchWord n w).regD = s.regD := rfl

@[simp] theorem withFetchWord_pc (s : State) (n w : Nat) : (s.withFetchWord n w).pc = s.pc := rfl

@[simp] theorem withFetchWord_ram (s : State) (n w : Nat) : (s.withFetchWord n w).ram = s.ram := rfl

@[simp] theorem withFetchWord_rom (s : State) (n w : Nat) :
    (s.withFetchWord n w).rom = Memory.write s.rom s.pc (tableWord n w) := rfl

@[simp] theorem withFetchWord_resetIn (s : State) (n w : Nat) :
    (s.withFetchWord n w).resetIn = s.resetIn := rfl

end Sys2Proof.Machine
end

