-- ==== Sys2Proof/Laws/Exec.lean ====
section
/-! SUPPORT. What each shared operation can do, said once: the fields of `compute`, and `exec` on each of the two
forms. -/

namespace Sys2Proof.Machine

@[simp] theorem alu_zr (x y : Word16) (c : BitVec 6) : (alu x y c).zr = zeroFlag (alu x y c).out := rfl

@[simp] theorem alu_ng (x y : Word16) (c : BitVec 6) :
    (alu x y c).ng = negativeFlag (alu x y c).out := rfl

theorem compute_regA (a : Bool) (c : BitVec 6) (f : CFields) (s : State) :
    (compute a c f s).regA =
      if f.dest.dA then (alu s.regD (operandY s a) c).out else s.regA := rfl

theorem compute_regD (a : Bool) (c : BitVec 6) (f : CFields) (s : State) :
    (compute a c f s).regD =
      if f.dest.dD then (alu s.regD (operandY s a) c).out else s.regD := rfl

theorem compute_ram (a : Bool) (c : BitVec 6) (f : CFields) (s : State) :
    (compute a c f s).ram =
      if f.dest.dM then Memory.write s.ram (addressM s) (alu s.regD (operandY s a) c).out
      else s.ram := rfl

theorem compute_pc (a : Bool) (c : BitVec 6) (f : CFields) (s : State) :
    (compute a c f s).pc =
      nextPc (resetPin s)
        (jumpCondition f.jump (alu s.regD (operandY s a) c).zr (alu s.regD (operandY s a) c).ng)
        s.regA s.pc := rfl

@[simp] theorem compute_rom (a : Bool) (c : BitVec 6) (f : CFields) (s : State) :
    (compute a c f s).rom = s.rom := rfl

@[simp] theorem compute_resetIn (a : Bool) (c : BitVec 6) (f : CFields) (s : State) :
    (compute a c f s).resetIn = s.resetIn.tail := rfl

/-- The operation of an instruction of the compute form is `compute` with its a-bit, control bits and fields. -/
theorem exec_of_compute_form {i : Instr} {a : Bool} {c : BitVec 6} {f : CFields}
    (h : formOf i = .c a c f) (s : State) : exec i s = .next (compute a c f s) := by
  cases i <;> cases h <;> rfl

/-- The only instruction of the address form is the A-instruction. -/
theorem eq_aInstr_of_form {i : Instr} {v : Word15} (h : formOf i = .a v) : i = .aInstr v := by
  cases i <;> cases h <;> rfl

end Sys2Proof.Machine
end

