-- ==== Sys2Proof/Laws/Memory.lean ====
section
/-! SUPPORT. The laws of the memory operations: what a read gives after a write, and that every operation keeps the
canonical form. -/

namespace Sys2Proof.Machine

@[simp] theorem lookup_nil (k : Nat) : Memory.lookup [] k = Config.unlistedWord := rfl

@[simp] theorem lookup_cons (cell : Nat × Word16) (m : Memory) (k : Nat) :
    Memory.lookup (cell :: m) k = if cell.1 = k then cell.2 else Memory.lookup m k := rfl

/-- Erasing the cells of `j` leaves the unlisted word there and every other word as it was. -/
theorem lookup_erase (m : Memory) (j k : Nat) :
    Memory.lookup (Memory.erase m j) k = if k = j then Config.unlistedWord else Memory.lookup m k := by
  induction m with
  | nil => simp [Memory.erase]
  | cons cell m ih =>
    simp only [Memory.erase, List.filter_cons] at ih ⊢
    by_cases h : cell.1 = j <;> by_cases h' : cell.1 = k <;> simp_all

/-- Inserting a cell for an address that no cell has changes that word only. -/
theorem lookup_insert (m : Memory) (j k : Nat) (v : Word16) (h : ∀ cell ∈ m, cell.1 ≠ j) :
    Memory.lookup (Memory.insert m j v) k = if k = j then v else Memory.lookup m k := by
  induction m with
  | nil => simp [Memory.insert, eq_comm]
  | cons cell m ih =>
    have hc : cell.1 ≠ j := h cell (by simp)
    have hm := ih fun c hc => h c (by simp [hc])
    simp only [Memory.insert]
    by_cases hk : k = j
    · subst hk
      split <;> simp [hc, hm]
    · split <;> simp [hk, hm, Ne.symm hk]

theorem mem_erase_ne (m : Memory) (j : Nat) : ∀ cell ∈ Memory.erase m j, cell.1 ≠ j := by
  simp [Memory.erase]

/-- Read after write (R50, R51): the written word at the written address, the old word everywhere else. -/
theorem read_write (m : Memory) (a b : Word15) (v : Word16) :
    Memory.read (Memory.write m a v) b = if b = a then v else Memory.read m b := by
  have key : (b.toNat = a.toNat) ↔ b = a := BitVec.toNat_inj
  by_cases hv : v = Config.unlistedWord
  · simp only [Memory.read, Memory.write, if_pos hv, lookup_erase, key]
    split <;> simp_all
  · simp only [Memory.read, Memory.write, if_neg hv, lookup_insert _ _ _ _ (mem_erase_ne m a.toNat),
      lookup_erase, key]
    split <;> rfl

@[simp] theorem read_write_same (m : Memory) (a : Word15) (v : Word16) :
    Memory.read (Memory.write m a v) a = v := by
  simp [read_write]

theorem read_write_other (m : Memory) {a b : Word15} (v : Word16) (h : b ≠ a) :
    Memory.read (Memory.write m a v) b = Memory.read m b := by
  simp [read_write, h]

theorem wfFrom_cons (lo : Nat) (cell : Nat × Word16) (m : Memory) :
    Memory.wfFrom lo (cell :: m) = true ↔
      lo ≤ cell.1 ∧ cell.1 < Config.memoryWords ∧ cell.2 ≠ Config.unlistedWord ∧
        Memory.wfFrom (cell.1 + 1) m = true := by
  simp [Memory.wfFrom, and_assoc]

/-- A list well formed from a higher address on is well formed from a lower one on. -/
theorem wfFrom_mono {lo hi : Nat} {m : Memory} (h : lo ≤ hi) (hm : Memory.wfFrom hi m = true) :
    Memory.wfFrom lo m = true := by
  cases m with
  | nil => rfl
  | cons cell m =>
    rw [wfFrom_cons] at hm ⊢
    exact ⟨by omega, hm.2⟩

theorem wfFrom_erase (lo j : Nat) (m : Memory) (h : Memory.wfFrom lo m = true) :
    Memory.wfFrom lo (Memory.erase m j) = true := by
  induction m generalizing lo with
  | nil => rfl
  | cons cell m ih =>
    rw [wfFrom_cons] at h
    have ht := ih (cell.1 + 1) h.2.2.2
    simp only [Memory.erase, List.filter_cons] at ht ⊢
    split
    · exact (wfFrom_cons _ _ _).2 ⟨h.1, h.2.1, h.2.2.1, ht⟩
    · exact wfFrom_mono (by omega) ht

theorem wfFrom_insert (lo j : Nat) (v : Word16) (m : Memory) (hlo : lo ≤ j)
    (hj : j < Config.memoryWords) (hv : v ≠ Config.unlistedWord) (hne : ∀ cell ∈ m, cell.1 ≠ j)
    (h : Memory.wfFrom lo m = true) : Memory.wfFrom lo (Memory.insert m j v) = true := by
  induction m generalizing lo with
  | nil => exact (wfFrom_cons _ _ _).2 ⟨hlo, hj, hv, rfl⟩
  | cons cell m ih =>
    obtain ⟨h1, h2, h3, h4⟩ := (wfFrom_cons _ _ _).1 h
    have hc : cell.1 ≠ j := hne cell (by simp)
    simp only [Memory.insert]
    split
    · exact (wfFrom_cons _ _ _).2 ⟨hlo, hj, hv, (wfFrom_cons _ _ _).2 ⟨by omega, h2, h3, h4⟩⟩
    · exact (wfFrom_cons _ _ _).2 ⟨h1, h2, h3,
        ih (cell.1 + 1) (by omega) (fun c hc => hne c (by simp [hc])) h4⟩

/-- A write keeps the canonical form. -/
theorem wf_write (m : Memory) (a : Word15) (v : Word16) (h : Memory.wf m = true) :
    Memory.wf (Memory.write m a v) = true := by
  unfold Memory.wf at h ⊢
  unfold Memory.write
  split
  · exact wfFrom_erase _ _ _ h
  · exact wfFrom_insert _ _ _ _ (Nat.zero_le _) a.isLt ‹_› (mem_erase_ne _ _) (wfFrom_erase _ _ _ h)

/-- The memory that the host loads a program into is in canonical form. -/
theorem wf_romOf (words : List Word16) : Memory.wf (romOf words) = true := by
  suffices h : ∀ (l : List (Word16 × Nat)) (m : Memory), Memory.wf m = true →
      Memory.wf (l.foldl (fun m p => Memory.write m (BitVec.ofNat 15 p.2) p.1) m) = true from
    h _ _ rfl
  intro l
  induction l with
  | nil => exact fun _ h => h
  | cons p l ih => exact fun m h => ih _ (wf_write _ _ _ h)

end Sys2Proof.Machine
end

