-- ==== Sys2Proof/Laws/PerInstr.lean ====
section
/-! SUPPORT. The per-instruction family TableRow: an instruction's own row of the encoding table selects that
instruction again. -/

namespace Sys2Proof.Laws.TableRow

/-- The a-bit, c1..c6 and fields that the encoding table gives an instruction are the row the decoder names it by. -/
def Statement (i : Instr) : Prop := instrOfForm (formOf i) = i

theorem aInstr (v : Word15) : Statement (.aInstr v) := rfl
theorem comp0 (f : CFields) : Statement (.comp0 f) := rfl
theorem comp1 (f : CFields) : Statement (.comp1 f) := rfl
theorem compNeg1 (f : CFields) : Statement (.compNeg1 f) := rfl
theorem compD (f : CFields) : Statement (.compD f) := rfl
theorem compA (f : CFields) : Statement (.compA f) := rfl
theorem compM (f : CFields) : Statement (.compM f) := rfl
theorem compNotD (f : CFields) : Statement (.compNotD f) := rfl
theorem compNotA (f : CFields) : Statement (.compNotA f) := rfl
theorem compNotM (f : CFields) : Statement (.compNotM f) := rfl
theorem compNegD (f : CFields) : Statement (.compNegD f) := rfl
theorem compNegA (f : CFields) : Statement (.compNegA f) := rfl
theorem compNegM (f : CFields) : Statement (.compNegM f) := rfl
theorem compDInc (f : CFields) : Statement (.compDInc f) := rfl
theorem compAInc (f : CFields) : Statement (.compAInc f) := rfl
theorem compMInc (f : CFields) : Statement (.compMInc f) := rfl
theorem compDDec (f : CFields) : Statement (.compDDec f) := rfl
theorem compADec (f : CFields) : Statement (.compADec f) := rfl
theorem compMDec (f : CFields) : Statement (.compMDec f) := rfl
theorem compDPlusA (f : CFields) : Statement (.compDPlusA f) := rfl
theorem compDPlusM (f : CFields) : Statement (.compDPlusM f) := rfl
theorem compDMinusA (f : CFields) : Statement (.compDMinusA f) := rfl
theorem compDMinusM (f : CFields) : Statement (.compDMinusM f) := rfl
theorem compAMinusD (f : CFields) : Statement (.compAMinusD f) := rfl
theorem compMMinusD (f : CFields) : Statement (.compMMinusD f) := rfl
theorem compDAndA (f : CFields) : Statement (.compDAndA f) := rfl
theorem compDAndM (f : CFields) : Statement (.compDAndM f) := rfl
theorem compDOrA (f : CFields) : Statement (.compDOrA f) := rfl
theorem compDOrM (f : CFields) : Statement (.compDOrM f) := rfl
theorem alias0 (f : CFields) : Statement (.alias0 f) := rfl
theorem alias1 (f : CFields) : Statement (.alias1 f) := rfl
theorem aliasNeg1 (f : CFields) : Statement (.aliasNeg1 f) := rfl
theorem aliasD (f : CFields) : Statement (.aliasD f) := rfl
theorem aliasNotD (f : CFields) : Statement (.aliasNotD f) := rfl
theorem aliasNegD (f : CFields) : Statement (.aliasNegD f) := rfl
theorem aliasDInc (f : CFields) : Statement (.aliasDInc f) := rfl
theorem aliasDDec (f : CFields) : Statement (.aliasDDec f) := rfl
theorem alu000001 (a : Bool) (f : CFields) : Statement (.alu000001 a f) := rfl
theorem alu000011 (a : Bool) (f : CFields) : Statement (.alu000011 a f) := rfl
theorem alu000100 (a : Bool) (f : CFields) : Statement (.alu000100 a f) := rfl
theorem alu000101 (a : Bool) (f : CFields) : Statement (.alu000101 a f) := rfl
theorem alu000110 (a : Bool) (f : CFields) : Statement (.alu000110 a f) := rfl
theorem alu001000 (a : Bool) (f : CFields) : Statement (.alu001000 a f) := rfl
theorem alu001001 (a : Bool) (f : CFields) : Statement (.alu001001 a f) := rfl
theorem alu001010 (a : Bool) (f : CFields) : Statement (.alu001010 a f) := rfl
theorem alu001011 (a : Bool) (f : CFields) : Statement (.alu001011 a f) := rfl
theorem alu010000 (a : Bool) (f : CFields) : Statement (.alu010000 a f) := rfl
theorem alu010001 (a : Bool) (f : CFields) : Statement (.alu010001 a f) := rfl
theorem alu010010 (a : Bool) (f : CFields) : Statement (.alu010010 a f) := rfl
theorem alu010100 (a : Bool) (f : CFields) : Statement (.alu010100 a f) := rfl
theorem alu010110 (a : Bool) (f : CFields) : Statement (.alu010110 a f) := rfl
theorem alu010111 (a : Bool) (f : CFields) : Statement (.alu010111 a f) := rfl
theorem alu011000 (a : Bool) (f : CFields) : Statement (.alu011000 a f) := rfl
theorem alu011001 (a : Bool) (f : CFields) : Statement (.alu011001 a f) := rfl
theorem alu011010 (a : Bool) (f : CFields) : Statement (.alu011010 a f) := rfl
theorem alu011011 (a : Bool) (f : CFields) : Statement (.alu011011 a f) := rfl
theorem alu011100 (a : Bool) (f : CFields) : Statement (.alu011100 a f) := rfl
theorem alu011101 (a : Bool) (f : CFields) : Statement (.alu011101 a f) := rfl
theorem alu011110 (a : Bool) (f : CFields) : Statement (.alu011110 a f) := rfl
theorem alu100000 (a : Bool) (f : CFields) : Statement (.alu100000 a f) := rfl
theorem alu100001 (a : Bool) (f : CFields) : Statement (.alu100001 a f) := rfl
theorem alu100010 (a : Bool) (f : CFields) : Statement (.alu100010 a f) := rfl
theorem alu100011 (a : Bool) (f : CFields) : Statement (.alu100011 a f) := rfl
theorem alu100100 (a : Bool) (f : CFields) : Statement (.alu100100 a f) := rfl
theorem alu100101 (a : Bool) (f : CFields) : Statement (.alu100101 a f) := rfl
theorem alu100110 (a : Bool) (f : CFields) : Statement (.alu100110 a f) := rfl
theorem alu100111 (a : Bool) (f : CFields) : Statement (.alu100111 a f) := rfl
theorem alu101000 (a : Bool) (f : CFields) : Statement (.alu101000 a f) := rfl
theorem alu101001 (a : Bool) (f : CFields) : Statement (.alu101001 a f) := rfl
theorem alu101011 (a : Bool) (f : CFields) : Statement (.alu101011 a f) := rfl
theorem alu101100 (a : Bool) (f : CFields) : Statement (.alu101100 a f) := rfl
theorem alu101101 (a : Bool) (f : CFields) : Statement (.alu101101 a f) := rfl
theorem alu101110 (a : Bool) (f : CFields) : Statement (.alu101110 a f) := rfl
theorem alu101111 (a : Bool) (f : CFields) : Statement (.alu101111 a f) := rfl
theorem alu110100 (a : Bool) (f : CFields) : Statement (.alu110100 a f) := rfl
theorem alu110101 (a : Bool) (f : CFields) : Statement (.alu110101 a f) := rfl
theorem alu110110 (a : Bool) (f : CFields) : Statement (.alu110110 a f) := rfl
theorem alu111000 (a : Bool) (f : CFields) : Statement (.alu111000 a f) := rfl
theorem alu111001 (a : Bool) (f : CFields) : Statement (.alu111001 a f) := rfl
theorem alu111011 (a : Bool) (f : CFields) : Statement (.alu111011 a f) := rfl
theorem alu111100 (a : Bool) (f : CFields) : Statement (.alu111100 a f) := rfl
theorem alu111101 (a : Bool) (f : CFields) : Statement (.alu111101 a f) := rfl
theorem alu111110 (a : Bool) (f : CFields) : Statement (.alu111110 a f) := rfl

end Sys2Proof.Laws.TableRow
end

