-- ==== Sys2Proof/Laws/Run.lean ====
section
/-! SUPPORT. A run, and the search for its end, one cycle at a time. -/

namespace Sys2Proof.Machine

@[simp] theorem runCycles_zero (s : State) : runCycles 0 s = .next s := rfl

/-- A run of `n + 1` cycles is its first cycle and then a run of `n` cycles. -/
theorem runCycles_succ (n : Nat) {s t : State} (h : step s = .next t) :
    runCycles (n + 1) s = runCycles n t := by
  have h' : Sys2Proof.core.step s = .next t := h
  simp only [runCycles, Host.Core.run, h']
  rfl

@[simp] theorem endCycle_zero (s : State) : endCycle 0 s = none := rfl

/-- A run that starts in a terminal loop has ended at its start. -/
theorem endCycle_of_inTerminalLoop (bound : Nat) {s : State} (h : inTerminalLoop s = true) :
    endCycle (bound + 1) s = some 0 := by
  simp only [endCycle, h, if_true]

/-- A run that does not start in a terminal loop ends one cycle after the run from its next state does. -/
theorem endCycle_of_not_inTerminalLoop (bound : Nat) {s : State} (h : inTerminalLoop s = false) :
    endCycle (bound + 1) s = (endCycle bound (computerStep s)).map (· + 1) := by
  simp only [endCycle, h, Bool.false_eq_true, if_false]

end Sys2Proof.Machine
end

