-- ==== Sys2Proof/Tests/Slice0.lean ====
section
/-! SUPPORT. Tests of the model on small states, one step each, with expected values from spec/95_test_vectors.md or
written out by hand from the rules; and a witness for the hypotheses of every statement that has some. -/

namespace Sys2Proof.Tests

open Sys2Proof Sys2Proof.Machine

/-! ## Helpers -/

/-- Whether an outcome is a next state of which something holds. -/
def nextHas (o : Host.Outcome State Fault Refusal) (p : State → Bool) : Bool :=
  match o with
  | .next t => p t
  | .fault _ => false
  | .refused _ => false

/-- A small state: registers, PC, one data word at the address `m.1`, and the coming reset bits. -/
def small (a d : Word16) (pc : Word15) (m : Nat × Word16) (resetIn : List Bool) : State :=
  { regA := a, regD := d, pc := pc, ram := if m.2 = 0#16 then [] else [m], rom := [], resetIn := resetIn }

/-- The start state E0 of spec/95_test_vectors.md. -/
def e0 : State := small 0x0064#16 0x0007#16 10#15 (100, 0x0003#16) []

/-- One step of the instruction word `w` from `s`. -/
def runWord (s : State) (w : Nat) : Host.Outcome State Fault Refusal := step (s.withFetchWord 16 w)

/-- Whether one step of `w` from `s` ends with these A, D, PC and this word at data address 100. -/
def endsWith (s : State) (w : Nat) (a d : Word16) (pc : Word15) (m : Word16) : Bool :=
  nextHas (runWord s w) fun t =>
    t.regA == a && t.regD == d && t.pc == pc && Memory.read t.ram 100#15 == m

/-! ## Well-formedness

`Instr.wellFormed` refuses nothing, because every instruction term has a word that executes (R79). -/

/-- The canonical assembler emits no word with bits 14..13 other than `11` (R82). -/
theorem test_canonical_refuses_ignored_bits :
    Instr.canonical (.compD ⟨0b01#2, Dest.D, Jump.none⟩) = false := by decide

/-- It emits no a = 1 alias and no non-documented code (R76, R208, R209). -/
theorem test_canonical_refuses_other_comps :
    Instr.canonical (.aliasD ⟨0b11#2, Dest.D, Jump.none⟩) = false ∧
      Instr.canonical (.alu000001 false ⟨0b11#2, Dest.D, Jump.none⟩) = false := by decide

theorem test_canonical_accepts :
    Instr.canonical (.aInstr 32767#15) = true ∧
      Instr.canonical (.compMDec ⟨0b11#2, Dest.AMD, Jump.JMP⟩) = true := by decide

/-! ## Decoding: a word of every constructor, written out from the table's encodings -/

/-- Whether each word decodes to its instruction and is that instruction's encoding. -/
def decodesAs (rows : List (Word16 × Instr)) : Bool :=
  rows.all fun r => decode r.1 == r.2 && encode r.2 == r.1

theorem test_decode_address : decodesAs
    [(0b0000000000000000#16, .aInstr 0#15), (0b0000000000010101#16, .aInstr 21#15),
     (0b0100000000000000#16, .aInstr 16384#15), (0b0111111111111111#16, .aInstr 32767#15)] = true := by
  decide

theorem test_decode_documented_1 : decodesAs
    [(0b1010101010100111#16, .comp0 ⟨0b01#2, Dest.A, Jump.JMP⟩),
     (0b1100111111111100#16, .comp1 ⟨0b10#2, Dest.AMD, Jump.JLT⟩),
     (0b1110111010010001#16, .compNeg1 ⟨0b11#2, Dest.D, Jump.JGT⟩),
     (0b1000001100101110#16, .compD ⟨0b00#2, Dest.AM, Jump.JLE⟩),
     (0b1010110000000011#16, .compA ⟨0b01#2, Dest.none, Jump.JGE⟩),
     (0b1101110000011000#16, .compM ⟨0b10#2, Dest.MD, Jump.none⟩),
     (0b1110001101110101#16, .compNotD ⟨0b11#2, Dest.AD, Jump.JNE⟩),
     (0b1000110001001010#16, .compNotA ⟨0b00#2, Dest.M, Jump.JEQ⟩),
     (0b1011110001100111#16, .compNotM ⟨0b01#2, Dest.A, Jump.JMP⟩),
     (0b1100001111111100#16, .compNegD ⟨0b10#2, Dest.AMD, Jump.JLT⟩),
     (0b1110110011010001#16, .compNegA ⟨0b11#2, Dest.D, Jump.JGT⟩),
     (0b1001110011101110#16, .compNegM ⟨0b00#2, Dest.AM, Jump.JLE⟩)] = true := by
  decide

theorem test_decode_documented_2 : decodesAs
    [(0b1010011111000011#16, .compDInc ⟨0b01#2, Dest.none, Jump.JGE⟩),
     (0b1100110111011000#16, .compAInc ⟨0b10#2, Dest.MD, Jump.none⟩),
     (0b1111110111110101#16, .compMInc ⟨0b11#2, Dest.AD, Jump.JNE⟩),
     (0b1000001110001010#16, .compDDec ⟨0b00#2, Dest.M, Jump.JEQ⟩),
     (0b1010110010100111#16, .compADec ⟨0b01#2, Dest.A, Jump.JMP⟩),
     (0b1101110010111100#16, .compMDec ⟨0b10#2, Dest.AMD, Jump.JLT⟩),
     (0b1110000010010001#16, .compDPlusA ⟨0b11#2, Dest.D, Jump.JGT⟩),
     (0b1001000010101110#16, .compDPlusM ⟨0b00#2, Dest.AM, Jump.JLE⟩),
     (0b1010010011000011#16, .compDMinusA ⟨0b01#2, Dest.none, Jump.JGE⟩),
     (0b1101010011011000#16, .compDMinusM ⟨0b10#2, Dest.MD, Jump.none⟩),
     (0b1110000111110101#16, .compAMinusD ⟨0b11#2, Dest.AD, Jump.JNE⟩),
     (0b1001000111001010#16, .compMMinusD ⟨0b00#2, Dest.M, Jump.JEQ⟩)] = true := by
  decide

theorem test_decode_documented_3 : decodesAs
    [(0b1010000000100111#16, .compDAndA ⟨0b01#2, Dest.A, Jump.JMP⟩),
     (0b1101000000111100#16, .compDAndM ⟨0b10#2, Dest.AMD, Jump.JLT⟩),
     (0b1110010101010001#16, .compDOrA ⟨0b11#2, Dest.D, Jump.JGT⟩),
     (0b1001010101101110#16, .compDOrM ⟨0b00#2, Dest.AM, Jump.JLE⟩)] = true := by
  decide

theorem test_decode_alias_1 : decodesAs
    [(0b1011101010000011#16, .alias0 ⟨0b01#2, Dest.none, Jump.JGE⟩),
     (0b1101111111011000#16, .alias1 ⟨0b10#2, Dest.MD, Jump.none⟩),
     (0b1111111010110101#16, .aliasNeg1 ⟨0b11#2, Dest.AD, Jump.JNE⟩),
     (0b1001001100001010#16, .aliasD ⟨0b00#2, Dest.M, Jump.JEQ⟩),
     (0b1011001101100111#16, .aliasNotD ⟨0b01#2, Dest.A, Jump.JMP⟩),
     (0b1101001111111100#16, .aliasNegD ⟨0b10#2, Dest.AMD, Jump.JLT⟩),
     (0b1111011111010001#16, .aliasDInc ⟨0b11#2, Dest.D, Jump.JGT⟩),
     (0b1001001110101110#16, .aliasDDec ⟨0b00#2, Dest.AM, Jump.JLE⟩)] = true := by
  decide

theorem test_decode_alu_codes_1 : decodesAs
    [(0b1010000001000011#16, .alu000001 false ⟨0b01#2, Dest.none, Jump.JGE⟩),
     (0b1101000011011000#16, .alu000011 true ⟨0b10#2, Dest.MD, Jump.none⟩),
     (0b1111000100110101#16, .alu000100 true ⟨0b11#2, Dest.AD, Jump.JNE⟩),
     (0b1000000101001010#16, .alu000101 false ⟨0b00#2, Dest.M, Jump.JEQ⟩),
     (0b1010000110100111#16, .alu000110 false ⟨0b01#2, Dest.A, Jump.JMP⟩),
     (0b1101001000111100#16, .alu001000 true ⟨0b10#2, Dest.AMD, Jump.JLT⟩),
     (0b1111001001010001#16, .alu001001 true ⟨0b11#2, Dest.D, Jump.JGT⟩),
     (0b1000001010101110#16, .alu001010 false ⟨0b00#2, Dest.AM, Jump.JLE⟩),
     (0b1010001011000011#16, .alu001011 false ⟨0b01#2, Dest.none, Jump.JGE⟩),
     (0b1101010000011000#16, .alu010000 true ⟨0b10#2, Dest.MD, Jump.none⟩),
     (0b1111010001110101#16, .alu010001 true ⟨0b11#2, Dest.AD, Jump.JNE⟩),
     (0b1000010010001010#16, .alu010010 false ⟨0b00#2, Dest.M, Jump.JEQ⟩)] = true := by
  decide

theorem test_decode_alu_codes_2 : decodesAs
    [(0b1010010100100111#16, .alu010100 false ⟨0b01#2, Dest.A, Jump.JMP⟩),
     (0b1101010110111100#16, .alu010110 true ⟨0b10#2, Dest.AMD, Jump.JLT⟩),
     (0b1111010111010001#16, .alu010111 true ⟨0b11#2, Dest.D, Jump.JGT⟩),
     (0b1000011000101110#16, .alu011000 false ⟨0b00#2, Dest.AM, Jump.JLE⟩),
     (0b1010011001000011#16, .alu011001 false ⟨0b01#2, Dest.none, Jump.JGE⟩),
     (0b1101011010011000#16, .alu011010 true ⟨0b10#2, Dest.MD, Jump.none⟩),
     (0b1111011011110101#16, .alu011011 true ⟨0b11#2, Dest.AD, Jump.JNE⟩),
     (0b1000011100001010#16, .alu011100 false ⟨0b00#2, Dest.M, Jump.JEQ⟩),
     (0b1010011101100111#16, .alu011101 false ⟨0b01#2, Dest.A, Jump.JMP⟩),
     (0b1101011110111100#16, .alu011110 true ⟨0b10#2, Dest.AMD, Jump.JLT⟩),
     (0b1111100000010001#16, .alu100000 true ⟨0b11#2, Dest.D, Jump.JGT⟩),
     (0b1000100001101110#16, .alu100001 false ⟨0b00#2, Dest.AM, Jump.JLE⟩)] = true := by
  decide

theorem test_decode_alu_codes_3 : decodesAs
    [(0b1010100010000011#16, .alu100010 false ⟨0b01#2, Dest.none, Jump.JGE⟩),
     (0b1101100011011000#16, .alu100011 true ⟨0b10#2, Dest.MD, Jump.none⟩),
     (0b1111100100110101#16, .alu100100 true ⟨0b11#2, Dest.AD, Jump.JNE⟩),
     (0b1000100101001010#16, .alu100101 false ⟨0b00#2, Dest.M, Jump.JEQ⟩),
     (0b1010100110100111#16, .alu100110 false ⟨0b01#2, Dest.A, Jump.JMP⟩),
     (0b1101100111111100#16, .alu100111 true ⟨0b10#2, Dest.AMD, Jump.JLT⟩),
     (0b1111101000010001#16, .alu101000 true ⟨0b11#2, Dest.D, Jump.JGT⟩),
     (0b1000101001101110#16, .alu101001 false ⟨0b00#2, Dest.AM, Jump.JLE⟩),
     (0b1010101011000011#16, .alu101011 false ⟨0b01#2, Dest.none, Jump.JGE⟩),
     (0b1101101100011000#16, .alu101100 true ⟨0b10#2, Dest.MD, Jump.none⟩),
     (0b1111101101110101#16, .alu101101 true ⟨0b11#2, Dest.AD, Jump.JNE⟩),
     (0b1000101110001010#16, .alu101110 false ⟨0b00#2, Dest.M, Jump.JEQ⟩)] = true := by
  decide

theorem test_decode_alu_codes_4 : decodesAs
    [(0b1010101111100111#16, .alu101111 false ⟨0b01#2, Dest.A, Jump.JMP⟩),
     (0b1101110100111100#16, .alu110100 true ⟨0b10#2, Dest.AMD, Jump.JLT⟩),
     (0b1111110101010001#16, .alu110101 true ⟨0b11#2, Dest.D, Jump.JGT⟩),
     (0b1000110110101110#16, .alu110110 false ⟨0b00#2, Dest.AM, Jump.JLE⟩),
     (0b1010111000000011#16, .alu111000 false ⟨0b01#2, Dest.none, Jump.JGE⟩),
     (0b1101111001011000#16, .alu111001 true ⟨0b10#2, Dest.MD, Jump.none⟩),
     (0b1111111011110101#16, .alu111011 true ⟨0b11#2, Dest.AD, Jump.JNE⟩),
     (0b1000111100001010#16, .alu111100 false ⟨0b00#2, Dest.M, Jump.JEQ⟩),
     (0b1010111101100111#16, .alu111101 false ⟨0b01#2, Dest.A, Jump.JMP⟩),
     (0b1101111110111100#16, .alu111110 true ⟨0b10#2, Dest.AMD, Jump.JLT⟩)] = true := by
  decide

/-- The bit numbering of the opcode table: bit 0 is the lowest bit of the one word (R7). -/
theorem test_decode_table_word :
    decodeTableWord 16 0xE310 = some (.compD ⟨0b11#2, Dest.D, Jump.none⟩) := by decide

/-! ## Address-instructions: vectors A1 to A6 -/

theorem test_a_instruction :
    ([(0x0000, 7#15, 0x0000#16, 8#15), (0x0001, 7#15, 0x0001#16, 8#15), (0x0015, 7#15, 0x0015#16, 8#15),
      (0x7FFF, 7#15, 0x7FFF#16, 8#15), (0x4000, 7#15, 0x4000#16, 8#15),
      (0x0005, 32767#15, 0x0005#16, 0#15)] : List (Nat × Word15 × Word16 × Word15)).all
      (fun r => endsWith (small 0x1234#16 0x5678#16 r.2.1 (100, 9#16) []) r.1 r.2.2.1 0x5678#16 r.2.2.2
        9#16) = true := by decide

/-! ## Destinations: vectors T1 to T16, from E0 -/

theorem test_dest_m_plus_one :
    ([(0xFDC0, 0x0064#16, 0x0007#16, 0x0003#16), (0xFDC8, 0x0064#16, 0x0007#16, 0x0004#16),
      (0xFDD0, 0x0064#16, 0x0004#16, 0x0003#16), (0xFDD8, 0x0064#16, 0x0004#16, 0x0004#16),
      (0xFDE0, 0x0004#16, 0x0007#16, 0x0003#16), (0xFDE8, 0x0004#16, 0x0007#16, 0x0004#16),
      (0xFDF0, 0x0004#16, 0x0004#16, 0x0003#16), (0xFDF8, 0x0004#16, 0x0004#16, 0x0004#16)] :
      List (Nat × Word16 × Word16 × Word16)).all
      (fun r => endsWith e0 r.1 r.2.1 r.2.2.1 11#15 r.2.2.2) = true := by decide

theorem test_dest_d_plus_a :
    ([(0xE080, 0x0064#16, 0x0007#16, 0x0003#16), (0xE088, 0x0064#16, 0x0007#16, 0x006B#16),
      (0xE090, 0x0064#16, 0x006B#16, 0x0003#16), (0xE098, 0x0064#16, 0x006B#16, 0x006B#16),
      (0xE0A0, 0x006B#16, 0x0007#16, 0x0003#16), (0xE0A8, 0x006B#16, 0x0007#16, 0x006B#16),
      (0xE0B0, 0x006B#16, 0x006B#16, 0x0003#16), (0xE0B8, 0x006B#16, 0x006B#16, 0x006B#16)] :
      List (Nat × Word16 × Word16 × Word16)).all
      (fun r => endsWith e0 r.1 r.2.1 r.2.2.1 11#15 r.2.2.2) = true := by decide

/-! ## Jumps: the table of section 4 (`D;J`, word `0xE30j`), and vectors J1 to J7 -/

theorem test_jump_table :
    ([(0x8000#16, [11#15, 11#15, 11#15, 11#15, 100#15, 100#15, 100#15, 100#15]),
      (0xFFFF#16, [11#15, 11#15, 11#15, 11#15, 100#15, 100#15, 100#15, 100#15]),
      (0x0000#16, [11#15, 11#15, 100#15, 100#15, 11#15, 11#15, 100#15, 100#15]),
      (0x0001#16, [11#15, 100#15, 11#15, 100#15, 11#15, 100#15, 11#15, 100#15]),
      (0x7FFF#16, [11#15, 100#15, 11#15, 100#15, 11#15, 100#15, 11#15, 100#15])] :
      List (Word16 × List Word15)).all
      (fun r => (r.2.zipIdx).all fun p =>
        endsWith (small 0x0064#16 r.1 10#15 (100, 3#16) []) (0xE300 + p.2) 0x0064#16 r.1 p.1 3#16) = true := by
  decide

/-- J1 to J4, J6, J7: word, start A, start D, end A and end PC. -/
theorem test_jump_corners :
    ([(0xEA87, 0x8005#16, 0x0000#16, 0x8005#16, 5#15), (0xE7C1, 0x0064#16, 0x7FFF#16, 0x0064#16, 11#15),
      (0xE7C4, 0x0064#16, 0x7FFF#16, 0x0064#16, 100#15), (0xEDE7, 0x0064#16, 0x0000#16, 0x0065#16, 100#15),
      (0xEA87, 0x000A#16, 0x0000#16, 0x000A#16, 10#15), (0xEA84, 0x0064#16, 0x0000#16, 0x0064#16, 11#15)] :
      List (Nat × Word16 × Word16 × Word16 × Word15)).all
      (fun r => endsWith (small r.2.1 r.2.2.1 10#15 (100, 3#16) []) r.1 r.2.2.2.1 r.2.2.1 r.2.2.2.2
        3#16) = true := by decide

/-- J5: memory address and jump target are the same A. -/
theorem test_jump_on_stored_word :
    endsWith (small 0x0064#16 5#16 10#15 (100, 1#16) []) 0xFC8A 0x0064#16 5#16 100#15 0#16 = true := by decide

/-! ## Comps: the table of section 5

Columns C1 to C5 are (D, y) = (0, 0), (0x7FFF, 1), (0x8000, 0xFFFF), (0xFFFF, 0xFFFF), (7, 0x0064). -/

/-- One column: `D=comp` from D = x with y in A or in the word at A, and the flags of that result. -/
def column (a : Bool) (c : BitVec 6) (x y : Word16) (expected : Word16 × Bool × Bool) : Bool :=
  let s := if a then small 0x0064#16 x 10#15 (100, y) [] else small y x 10#15 (100, 0x5555#16) []
  let w := encodeForm (.c a c ⟨0b11#2, Dest.D, Jump.none⟩)
  let r := alu x y c
  nextHas (runWord s w.toNat) (fun t => t.regD == expected.1 && t.regA == s.regA && t.pc == 11#15) &&
    (r.zr == expected.2.1 && r.ng == expected.2.2)

/-- The five columns of a row; a flag is written 0 or 1 as in the table. -/
def compRowHolds (a : Bool) (c : BitVec 6) (e : List (Nat × Nat × Nat)) : Bool :=
  let xs := [(0x0000#16, 0x0000#16), (0x7FFF#16, 0x0001#16), (0x8000#16, 0xFFFF#16), (0xFFFF#16, 0xFFFF#16),
    (0x0007#16, 0x0064#16)]
  (e.length == 5) && (xs.zip e).all fun p =>
    column a c p.1.1 p.1.2 (BitVec.ofNat 16 p.2.1, p.2.2.1 == 1, p.2.2.2 == 1)

/-- R180 to R183. -/
theorem test_comps_R180 :
    compRowHolds false 0b101010#6
      [(0x0000, 1, 0), (0x0000, 1, 0), (0x0000, 1, 0), (0x0000, 1, 0), (0x0000, 1, 0)] = true ∧
    compRowHolds false 0b111111#6
      [(0x0001, 0, 0), (0x0001, 0, 0), (0x0001, 0, 0), (0x0001, 0, 0), (0x0001, 0, 0)] = true ∧
    compRowHolds false 0b111010#6
      [(0xFFFF, 0, 1), (0xFFFF, 0, 1), (0xFFFF, 0, 1), (0xFFFF, 0, 1), (0xFFFF, 0, 1)] = true ∧
    compRowHolds false 0b001100#6
      [(0x0000, 1, 0), (0x7FFF, 0, 0), (0x8000, 0, 1), (0xFFFF, 0, 1), (0x0007, 0, 0)] = true := by decide

/-- R184 to R187. -/
theorem test_comps_R184 :
    compRowHolds false 0b110000#6
      [(0x0000, 1, 0), (0x0001, 0, 0), (0xFFFF, 0, 1), (0xFFFF, 0, 1), (0x0064, 0, 0)] = true ∧
    compRowHolds true 0b110000#6
      [(0x0000, 1, 0), (0x0001, 0, 0), (0xFFFF, 0, 1), (0xFFFF, 0, 1), (0x0064, 0, 0)] = true ∧
    compRowHolds false 0b001101#6
      [(0xFFFF, 0, 1), (0x8000, 0, 1), (0x7FFF, 0, 0), (0x0000, 1, 0), (0xFFF8, 0, 1)] = true ∧
    compRowHolds false 0b110001#6
      [(0xFFFF, 0, 1), (0xFFFE, 0, 1), (0x0000, 1, 0), (0x0000, 1, 0), (0xFF9B, 0, 1)] = true := by decide

/-- R188 to R191. -/
theorem test_comps_R188 :
    compRowHolds true 0b110001#6
      [(0xFFFF, 0, 1), (0xFFFE, 0, 1), (0x0000, 1, 0), (0x0000, 1, 0), (0xFF9B, 0, 1)] = true ∧
    compRowHolds false 0b001111#6
      [(0x0000, 1, 0), (0x8001, 0, 1), (0x8000, 0, 1), (0x0001, 0, 0), (0xFFF9, 0, 1)] = true ∧
    compRowHolds false 0b110011#6
      [(0x0000, 1, 0), (0xFFFF, 0, 1), (0x0001, 0, 0), (0x0001, 0, 0), (0xFF9C, 0, 1)] = true ∧
    compRowHolds true 0b110011#6
      [(0x0000, 1, 0), (0xFFFF, 0, 1), (0x0001, 0, 0), (0x0001, 0, 0), (0xFF9C, 0, 1)] = true := by decide

/-- R192 to R195. -/
theorem test_comps_R192 :
    compRowHolds false 0b011111#6
      [(0x0001, 0, 0), (0x8000, 0, 1), (0x8001, 0, 1), (0x0000, 1, 0), (0x0008, 0, 0)] = true ∧
    compRowHolds false 0b110111#6
      [(0x0001, 0, 0), (0x0002, 0, 0), (0x0000, 1, 0), (0x0000, 1, 0), (0x0065, 0, 0)] = true ∧
    compRowHolds true 0b110111#6
      [(0x0001, 0, 0), (0x0002, 0, 0), (0x0000, 1, 0), (0x0000, 1, 0), (0x0065, 0, 0)] = true ∧
    compRowHolds false 0b001110#6
      [(0xFFFF, 0, 1), (0x7FFE, 0, 0), (0x7FFF, 0, 0), (0xFFFE, 0, 1), (0x0006, 0, 0)] = true := by decide

/-- R196 to R199. -/
theorem test_comps_R196 :
    compRowHolds false 0b110010#6
      [(0xFFFF, 0, 1), (0x0000, 1, 0), (0xFFFE, 0, 1), (0xFFFE, 0, 1), (0x0063, 0, 0)] = true ∧
    compRowHolds true 0b110010#6
      [(0xFFFF, 0, 1), (0x0000, 1, 0), (0xFFFE, 0, 1), (0xFFFE, 0, 1), (0x0063, 0, 0)] = true ∧
    compRowHolds false 0b000010#6
      [(0x0000, 1, 0), (0x8000, 0, 1), (0x7FFF, 0, 0), (0xFFFE, 0, 1), (0x006B, 0, 0)] = true ∧
    compRowHolds true 0b000010#6
      [(0x0000, 1, 0), (0x8000, 0, 1), (0x7FFF, 0, 0), (0xFFFE, 0, 1), (0x006B, 0, 0)] = true := by decide

/-- R200 to R203. -/
theorem test_comps_R200 :
    compRowHolds false 0b010011#6
      [(0x0000, 1, 0), (0x7FFE, 0, 0), (0x8001, 0, 1), (0x0000, 1, 0), (0xFFA3, 0, 1)] = true ∧
    compRowHolds true 0b010011#6
      [(0x0000, 1, 0), (0x7FFE, 0, 0), (0x8001, 0, 1), (0x0000, 1, 0), (0xFFA3, 0, 1)] = true ∧
    compRowHolds false 0b000111#6
      [(0x0000, 1, 0), (0x8002, 0, 1), (0x7FFF, 0, 0), (0x0000, 1, 0), (0x005D, 0, 0)] = true ∧
    compRowHolds true 0b000111#6
      [(0x0000, 1, 0), (0x8002, 0, 1), (0x7FFF, 0, 0), (0x0000, 1, 0), (0x005D, 0, 0)] = true := by decide

/-- R204 to R207. -/
theorem test_comps_R204 :
    compRowHolds false 0b000000#6
      [(0x0000, 1, 0), (0x0001, 0, 0), (0x8000, 0, 1), (0xFFFF, 0, 1), (0x0004, 0, 0)] = true ∧
    compRowHolds true 0b000000#6
      [(0x0000, 1, 0), (0x0001, 0, 0), (0x8000, 0, 1), (0xFFFF, 0, 1), (0x0004, 0, 0)] = true ∧
    compRowHolds false 0b010101#6
      [(0x0000, 1, 0), (0x7FFF, 0, 0), (0xFFFF, 0, 1), (0xFFFF, 0, 1), (0x0067, 0, 0)] = true ∧
    compRowHolds true 0b010101#6
      [(0x0000, 1, 0), (0x7FFF, 0, 0), (0xFFFF, 0, 1), (0xFFFF, 0, 1), (0x0067, 0, 0)] = true := by decide

/-- K1 to K6: aliases and non-documented codes from E0, by word and end D. -/
theorem test_other_codes :
    ([(0xF310, 0x0007#16), (0xFA90, 0x0000#16), (0xE050, 0xFFFB#16), (0xEF90, 0xFFFE#16), (0xE0D0, 0xFF94#16),
      (0xF010, 0x0003#16)] : List (Nat × Word16)).all
      (fun r => endsWith e0 r.1 0x0064#16 r.2 11#15 3#16) = true := by decide

/-! ## Datapath: vectors P-1 to P-9 -/

theorem test_datapath_words :
    ([(0xE310, 0x0064#16, 0x0007#16, 3#16), (0xC310, 0x0064#16, 0x0007#16, 3#16),
      (0xA310, 0x0064#16, 0x0007#16, 3#16), (0x8310, 0x0064#16, 0x0007#16, 3#16),
      (0xE7D0, 0x0064#16, 0x0008#16, 3#16), (0xEDE0, 0x0065#16, 0x0007#16, 3#16),
      (0xFDF8, 0x0004#16, 0x0004#16, 4#16), (0x0064, 0x0064#16, 0x0007#16, 3#16)] :
      List (Nat × Word16 × Word16 × Word16)).all
      (fun r => endsWith e0 r.1 r.2.1 r.2.2.1 11#15 r.2.2.2) = true := by decide

/-- P-7 at the ports: `AMD=M+1` writes 4 at the old A. -/
theorem test_ports_of_amd :
    let k := computerCycle (e0.withFetchWord 16 0xFDF8)
    k.writeM = true ∧ k.outM = 4#16 ∧ k.addressM = 100#15 ∧ k.pc = 10#15 ∧ k.after.regA = 4#16 := by decide

/-- P-9: A[15] never reaches the address. -/
theorem test_address_drops_high_bit :
    endsWith (small 0x8064#16 7#16 10#15 (100, 3#16) []) 0xE308 0x8064#16 7#16 11#15 7#16 = true := by decide

/-! ## Reset and PC: vectors X1 to X6 -/

theorem test_reset_beats_jump :
    endsWith { e0 with resetIn := [true] } 0xE301 0x0064#16 7#16 0#15 3#16 = true := by decide

theorem test_reset_keeps_writes :
    endsWith { e0 with resetIn := [true] } 0xFDD8 0x0064#16 4#16 0#15 4#16 = true ∧
      endsWith { e0 with resetIn := [true] } 0x0005 0x0005#16 7#16 0#15 3#16 = true := by decide

theorem test_pc_wraps_and_jumps_at_the_top :
    endsWith { e0 with pc := 32767#15 } 0xEC10 0x0064#16 0x0064#16 0#15 3#16 = true ∧
      endsWith { e0 with pc := 32767#15 } 0xEA87 0x0064#16 7#16 100#15 3#16 = true := by decide

/-- X6, its last cycle: reset released at PC 0 gives PC 1; the pin's list moves on. -/
theorem test_reset_released :
    nextHas (step { e0 with pc := 0#15, resetIn := [false, true] })
      (fun t => t.pc == 1#15 && t.resetIn == [true]) = true := by decide

/-! ## Recursive memory: vectors M1 to M9 and S1 to S3 -/

theorem test_child_paths :
    childPath 1 5 = [5] ∧ childPath 2 43 = [5, 3] ∧ childPath 2 0 = [0, 0] ∧ childPath 2 63 = [7, 7] ∧
      childPath 3 469 = [7, 2, 5] ∧ childPath 5 23228 = [5, 5, 2, 7, 4] ∧
      childPath 5 16384 = [4, 0, 0, 0, 0] ∧ childPath 5 24576 = [6, 0, 0, 0, 0] ∧
      childPath 5 32767 = [7, 7, 7, 7, 7] := by decide

/-- The test memory of section 8: cell `Y` holds `Y xor 0x5A5A`. -/
def patterned (L : Nat) : Block L := blockOf (fun y => BitVec.ofNat 16 y ^^^ 0x5A5A#16) L 0

/-- The procedure of section 8 on RAM8, for every address and the value 0xA5A5. -/
theorem test_ram8_no_cross_talk :
    (List.range 8).all (fun x => (List.range 8).all fun y =>
      blockOut 1 (blockEdge 1 (patterned 1) 0xA5A5#16 true (BitVec.ofNat 3 x)) (BitVec.ofNat 3 y) ==
        if y = x then 0xA5A5#16 else BitVec.ofNat 16 y ^^^ 0x5A5A#16) = true := by decide

/-- S2: in RAM64 a read during a write sees the old word, and address 42 is unperturbed. -/
theorem test_ram64_sequence :
    let b1 := blockEdge 2 (patterned 2) 0x0001#16 true 43#6
    let b2 := blockEdge 2 b1 0x0002#16 true 43#6
    blockOut 2 b1 43#6 = 0x0001#16 ∧ blockOut 2 b2 43#6 = 0x0002#16 ∧
      blockOut 2 b2 42#6 = 0x002A#16 ^^^ 0x5A5A#16 := by decide

/-- S3: RAM32K. -/
theorem test_ram32k_sequence :
    let b1 := blockEdge 5 (patterned 5) 0xFFFF#16 true 23228#15
    blockOut 5 b1 23228#15 = 0xFFFF#16 ∧ blockOut 5 b1 23227#15 = 0x5ABB#16 ^^^ 0x5A5A#16 := by decide

/-- The cells of a memory stay in order, and writing what an unlisted word reads as removes the cell. -/
theorem test_memory_is_canonical :
    Memory.write (Memory.write [] 9#15 1#16) 3#15 2#16 = [(3, 2#16), (9, 1#16)] ∧
      Memory.write [(3, 2#16), (9, 1#16)] 9#15 0#16 = [(3, 2#16)] ∧
      Memory.wf [(9, 1#16), (3, 2#16)] = false ∧ Memory.wf [(3, 0#16)] = false ∧
      Memory.wf [(32768, 1#16)] = false := by decide

/-! ## Notation -/

set_option maxRecDepth 4000 in
/-- Program P1, from its text to its 24 words. -/
theorem test_assemble_P1 :
    assembleText "@3\nD=A\n@R0\nM=D\n@4\nD=A\n@R1\nM=D\n@R2\nM=0\n(LOOP)\n@R0\nD=M\n@END\nD;JEQ\n@R1\nD=M\n@R2\nM=D+M\n@R0\nM=M-1\n@LOOP\n0;JMP\n(END)\n@END\n0;JMP" =
      some
        ([0x0003#16, 0xEC10#16, 0x0000#16, 0xE308#16, 0x0004#16, 0xEC10#16, 0x0001#16, 0xE308#16, 0x0002#16,
          0xEA88#16, 0x0000#16, 0xFC10#16] ++
         [0x0016#16, 0xE302#16, 0x0001#16, 0xFC10#16, 0x0002#16, 0xF088#16, 0x0000#16, 0xFC88#16, 0x000A#16,
          0xEA87#16, 0x0016#16, 0xEA87#16]) := by decide

/-- Blank space and comments are ignored; variables start at 16 in order of first use (R82, R83). -/
theorem test_assemble_variables :
    assembleText "// two variables\n\n @x // first\n@R3\n @ y.z\n@x\n AMD = D|M ; JLE" =
      some [16#16, 3#16, 17#16, 16#16, 0xF57E#16] := by decide

/-- Text outside the syntax has no words: a constant above 32767, a comp of another order, a label that begins with a
digit (R73, R76, R83). -/
theorem test_assemble_refuses :
    assembleText "@32768" = none ∧ assembleText "D=M+D" = none ∧ assembleText "(1END)" = none := by decide

/-- R85, R208: words without a standard spelling. -/
theorem test_spell :
    spell (decode 0xE310#16) = "D=D" ∧ spell (decode 0xC310#16) = "D=D; bits14:13=10" ∧
      spell (decode 0xF310#16) = "D=D; a=1" ∧ spell (decode 0xE050#16) = "D=comp#a=0,c=000001" ∧
      spell (decode 0x7FFF#16) = "@32767" ∧ spell (decode 0xFC8A#16) = "M=M-1;JEQ" := by decide

/-! ## How a program comes to run (log entry 5) -/

/-- The host loads ROM; the first step after reset runs its first word. -/
theorem test_loaded_program_runs :
    nextHas (step (loadProgram State.reset [0x0015#16, 0xEC10#16]))
      (fun t => t.regA == 21#16 && t.pc == 1#15) = true := by decide

/-- With nothing loaded, a word of ROM is `@0` and PC advances. -/
theorem test_nothing_loaded : step State.reset = .next { State.reset with pc := 1#15 } := rfl
/-! ## Witnesses: the hypotheses of each statement that has some, met by concrete states and operands

The statements without a hypothesis need none. -/

/-- A state whose next words are `D=A` at PC 10 and `M=D` at 11. -/
def wit : State := { e0 with rom := [(10, 0xEC10#16), (11, 0xE308#16)] }

theorem witness_StepRunsTheDecodedInstruction :
    decode (Memory.read wit.rom wit.pc) = .compA ⟨0b11#2, Dest.D, Jump.none⟩ := by decide

/-- Both values of bit 15, for the two sides of each equivalence. -/
theorem witness_HighBitAloneSelectsTheForm :
    decode 0x7FFF#16 = .aInstr 32767#15 ∧ (0x7FFF#16).getLsbD 15 = false ∧
      formOf (decode 0x8000#16) = .c false 0b000000#6 ⟨0b00#2, Dest.none, Jump.none⟩ ∧
      (0x8000#16).getLsbD 15 = true := by decide

/-- The rule's own example, with and without A[15], and with reset for the first clause. -/
theorem witness_JumpTargetIsTheOldA :
    let s := small 16#16 7#16 10#15 (100, 3#16) []
    s.regA = 16#16 ∧ resetPin s = false ∧
      endsWith s 0xEDE7 17#16 7#16 16#15 3#16 = true ∧
      endsWith (small 0x8010#16 7#16 10#15 (100, 3#16) []) 0xEDE7 0x8011#16 7#16 16#15 3#16 = true ∧
      endsWith (small 16#16 7#16 10#15 (100, 3#16) [true]) 0xEDE7 17#16 7#16 0#15 3#16 = true := by decide

theorem witness_ReadDuringWriteSeesTheOldWord :
    (⟨0b11#2, Dest.AMD, Jump.none⟩ : CFields).dest.dM = true ∧
      (⟨0b00#2, Dest.M, Jump.JMP⟩ : CFields).dest.dM = true := by decide

/-- Two memories that agree at A and differ elsewhere. -/
theorem witness_OnlyTheWordAtAIsRead :
    let m : Memory := [(99, 1#16), (100, 3#16), (32767, 2#16)]
    Memory.read m (e0.regA.extractLsb' 0 15) = Memory.read e0.ram (e0.regA.extractLsb' 0 15) ∧
      m ≠ e0.ram := by decide

/-- An A-instruction with bit 12 set, and a compute-instruction with a = 0. -/
theorem witness_MemoryIsUsedOnlyWithTheABit :
    ((0x7FFF#16).getLsbD 15 && (0x7FFF#16).getLsbD 12) = false ∧
      ((0xEFFF#16).getLsbD 15 && (0xEFFF#16).getLsbD 12) = false := by decide

/-- Words for the clauses of the three datapath statements: an A-instruction with every dest bit set, compute words
with each dest bit, and none. -/
theorem witness_DatapathLawsForEveryAlu :
    (0x7FFF#16).getLsbD 15 = false ∧ (0x8000#16).getLsbD 15 = true ∧
      (0x8000#16).getLsbD 4 = false ∧ (0x8000#16).getLsbD 5 = false := by decide

theorem witness_RegisterFileControlTable :
    (0x0038#16).getLsbD 15 = false ∧
      ((0x8018#16).getLsbD 15 = true ∧ (0x8018#16).getLsbD 5 = false) ∧
      ((0x8020#16).getLsbD 15 = true ∧ (0x8020#16).getLsbD 5 = true) := by decide

/-- `M=D` asserts `writeM`, with any ALU. -/
theorem witness_PortsShowHeldValues (f : AluFn) :
    (cpuStep f ⟨0x0064#16, 7#16, 10#15⟩ 0xE308#16 3#16 false).writeM = true := rfl

/-- The first and the last selector value. -/
theorem witness_PrimitivesMeetTheirContracts :
    (0 : Fin 8).val = (0#3).toNat ∧ (7 : Fin 8).val = (7#3).toNat := by decide

theorem witness_AtMostOneLeafIsLoaded :
    (7 : Fin 8).val = (7#3).toNat ∧ (6 : Fin 8).val ≠ (7#3).toNat := by decide

/-- A computer wired to a block of zeros holds what the state after reset holds. -/
theorem witness_WiredComputerSimulatesTheMachine :
    Wires State.reset ⟨cpuRegs State.reset, blockOf (fun _ => 0#16) 5 0⟩ := ⟨rfl, fun _ => rfl⟩

/-- Two memories written in opposite orders. -/
theorem witness_MemoriesThatReadAlikeAreEqual :
    let m := Memory.write (Memory.write [] 0#15 1#16) 32767#15 2#16
    let m' := Memory.write (Memory.write [] 32767#15 2#16) 0#15 1#16
    Memory.wf m = true ∧ Memory.wf m' = true ∧ ∀ x : Word15, Memory.read m x = Memory.read m' x :=
  ⟨by decide, by decide, fun _ => rfl⟩

/-- Two cycles that write a word, which is then the latest write. -/
theorem witness_ReadsReturnTheLatestWrite :
    ∃ t, runCycles 2 wit = .next t ∧ Memory.read t.ram 100#15 = 0x0064#16 ∧
      writesLatestFirst 2 wit = [(100#15, 0x0064#16)] := ⟨_, rfl, by decide, by decide⟩

/-- The same run, in which a store happens. -/
theorem witness_StoresNeverChangeFetchedInstructions :
    ∃ t, runCycles 2 wit = .next t ∧ t.ram ≠ wit.ram ∧ fetch { t with pc := 10#15 } = 0xEC10#16 :=
  ⟨_, rfl, by decide, by decide⟩

/-- The first word and the last one that an address names. -/
theorem witness_LoadedProgramIsFetched :
    ([0x0015#16, 0xEC10#16] : List Word16)[(0#15 : Word15).toNat]? = some 0x0015#16 ∧
      (List.replicate 32768 0xEC10#16 : List Word16)[(32767#15 : Word15).toNat]? = some 0xEC10#16 := by
  constructor
  · decide
  · exact List.getElem?_replicate_of_lt (by decide)

theorem witness_AInstructionFrame : ∃ t, exec (.aInstr 5#15) e0 = .next t := ⟨_, rfl⟩

/-- A form that stores nothing and one that stores. -/
theorem witness_ComputeInstructionFrame :
    let i : Instr := .compDPlusA ⟨0b11#2, Dest.none, Jump.JGT⟩
    let j : Instr := .compMInc ⟨0b11#2, Dest.AMD, Jump.none⟩
    formOf i = .c false 0b000010#6 ⟨0b11#2, Dest.none, Jump.JGT⟩ ∧ (∃ t, exec i e0 = .next t) ∧
      formOf j = .c true 0b110111#6 ⟨0b11#2, Dest.AMD, Jump.none⟩ ∧ (∃ t, exec j e0 = .next t) :=
  ⟨rfl, ⟨_, rfl⟩, rfl, ⟨_, rfl⟩⟩

/-- The invariant at the state after reset and at a state with listed words, each with its step. -/
theorem witness_StepKeepsMemoriesCanonical :
    (State.reset.wf = true ∧ ∃ t, step State.reset = .next t) ∧
      (wit.wf = true ∧ ∃ t, step wit = .next t) := ⟨⟨rfl, ⟨_, rfl⟩⟩, ⟨by decide, ⟨_, rfl⟩⟩⟩

/-- Reset held for one cycle and for three, with the pin released after them. -/
theorem witness_ResetHeldExecutesRomZero :
    ({ e0 with resetIn := [true] } : State).resetIn = List.replicate (0 + 1) true ++ [] ∧
      ({ e0 with resetIn := [true, true, true, false] } : State).resetIn =
        List.replicate (2 + 1) true ++ [false] ∧
      ([] : List Bool).headD false = false ∧ [false].headD false = false := by decide

/-- The terminal loop at label 22, and at the last address, where the successor of the label is address 0. -/
theorem witness_TerminalLoopRepeats :
    AtTerminalLoop { e0 with pc := 22#15, rom := [(22, 0x0016#16), (23, 0xEA87#16)] } 22#15 ∧
      AtTerminalLoop { e0 with pc := 32767#15, rom := [(0, 0xEA87#16), (32767, 0x7FFF#16)], resetIn := [false] } 32767#15 := by
  refine ⟨⟨by decide, by decide, ⟨false, 0b101010#6, 0b11#2, by decide⟩, by decide⟩,
    ⟨by decide, by decide, ⟨false, 0b101010#6, 0b11#2, by decide⟩, by decide⟩⟩

/-- `D=A` and then the terminal loop at label 1; PC 0. -/
def ending : State := { e0 with pc := 0#15, rom := [(0, 0xEC10#16), (1, 0x0001#16), (2, 0xEA87#16)] }

/-- The run ends after one cycle, at the first state with PC 1. -/
theorem witness_EndedRunHasOneEndAndRepeats :
    RunEnds ending 1 { ending with regD := 0x0064#16, pc := 1#15 } := by
  refine ⟨⟨rfl, 1#15, by decide, by decide, ⟨false, 0b101010#6, 0b11#2, by decide⟩, by decide⟩, ?_⟩
  intro k hk u hu l hl
  obtain rfl : k = 0 := by omega
  cases hu
  obtain ⟨rfl, h, -⟩ := hl
  exact absurd h (by decide)

/-- Both sides of the search: found, found at the start, not found within the bound. -/
theorem witness_EndCycleIsTheFirstTerminalLoop :
    endCycle 2 ending = some 1 ∧ endCycle 1 { ending with pc := 1#15 } = some 0 ∧
      endCycle 1 ending = none := by decide

/-- Not ended: a later return to the label within a run that ended before, a jump with a dest, a jump that is not
`JMP`, a reset still to come. -/
theorem test_not_the_end :
    endCycle 4 ending ≠ some 3 ∧
      inTerminalLoop { ending with pc := 1#15, rom := [(1, 0x0001#16), (2, 0xEA97#16)] } = false ∧
      inTerminalLoop { ending with pc := 1#15, rom := [(1, 0x0001#16), (2, 0xEA82#16)] } = false ∧
      inTerminalLoop { ending with pc := 1#15, resetIn := [false, true] } = false := by decide

theorem witness_AssemblerEmitsCanonicalWords :
    assembleCompute "AMD" "D|M" "JMP" = some 0xF57F#16 ∧ assembleCompute "" "0" "" = some 0xEA80#16 := by decide

end Sys2Proof.Tests
end

section
/-! The recursive memory block: an address is the child it selects and the address it passes on, so a law about a
block follows from the law about its children. -/

namespace Sys2Proof.Machine

/-- The child that an address selects is its quotient by the size of a child: 3 bits hold it (R45). -/
theorem addressHi_toNat (L : Nat) (x : BitVec (3 * (L + 1))) :
    (addressHi L x).toNat = x.toNat / 2 ^ (3 * L) := by
  have hx : x.toNat < 2 ^ (3 * L) * 2 ^ 3 := by
    rw [← Nat.pow_add]
    exact x.isLt
  rw [addressHi, BitVec.extractLsb'_toNat, Nat.shiftRight_eq_div_pow, Nat.mod_eq_of_lt (Nat.div_lt_of_lt_mul hx)]

theorem addressLo_toNat (L : Nat) (x : BitVec (3 * (L + 1))) :
    (addressLo L x).toNat = x.toNat % 2 ^ (3 * L) := by
  simp [addressLo]

/-- Two addresses are one iff they select the same child and pass the same address on to it. -/
theorem address_eq_iff (L : Nat) (x y : BitVec (3 * (L + 1))) :
    y = x ↔ addressHi L y = addressHi L x ∧ addressLo L y = addressLo L x := by
  constructor
  · rintro rfl
    exact ⟨rfl, rfl⟩
  · rintro ⟨hhi, hlo⟩
    apply BitVec.eq_of_toNat_eq
    rw [← Nat.div_add_mod y.toNat (2 ^ (3 * L)), ← Nat.div_add_mod x.toNat (2 ^ (3 * L)),
      ← addressHi_toNat, ← addressHi_toNat, ← addressLo_toNat, ← addressLo_toNat, hhi, hlo]

/-- The child that an address selects observes the node's `load` if the load's own address selects it too, and 0
otherwise (R42). -/
theorem dMux8Way_toFin (load : Bool) (p q : BitVec 3) :
    dMux8Way load p q.toFin = (load && decide (q = p)) := by
  have hsel : q.toFin = p.toFin ↔ q = p := BitVec.toFin_inj
  cases load <;> simp [dMux8Way, hsel]

/-- Reading a node reads the child that the address selects (R45). -/
theorem blockOut_succ (L : Nat) (child : Block (L + 1)) (y : BitVec (3 * (L + 1))) :
    blockOut (L + 1) child y = blockOut L (child (addressHi L y).toFin) (addressLo L y) := rfl

/-- Reading a node after its clock edge reads the selected child after its own edge. -/
theorem blockOut_blockEdge_succ (L : Nat) (child : Block (L + 1)) (inp : Word16) (load : Bool)
    (x y : BitVec (3 * (L + 1))) :
    blockOut (L + 1) (blockEdge (L + 1) child inp load x) y =
      blockOut L (blockEdge L (child (addressHi L y).toFin) inp
        (load && decide (addressHi L y = addressHi L x)) (addressLo L x)) (addressLo L y) := by
  rw [← dMux8Way_toFin]
  rfl

/-- Read after write in a block of any number of levels (R50, R51). -/
theorem blockOut_blockEdge (L : Nat) (b : Block L) (inp : Word16) (load : Bool) (x y : BitVec (3 * L)) :
    blockOut L (blockEdge L b inp load x) y =
      if load = true ∧ y = x then inp else blockOut L b y := by
  induction L generalizing load with
  | zero =>
    have hxy : y = x := BitVec.eq_of_zero_length rfl
    simp [blockOut, blockEdge, registerEdge, hxy]
  | succ L ih =>
    rw [blockOut_blockEdge_succ, ih, blockOut_succ]
    simp only [address_eq_iff L x y, Bool.and_eq_true, decide_eq_true_eq, and_assoc]

/-- A block of `L` levels has `8^L` leaves: eight times those of a child (R48). -/
theorem length_blockLeaves (L : Nat) (b : Block L) : (blockLeaves L b).length = 8 ^ L := by
  induction L with
  | zero => rfl
  | succ L ih =>
    have hsum : ((List.finRange 8).map fun i => (blockLeaves L (b i)).length).sum = 8 * 8 ^ L := by
      simp only [ih, List.map_const', List.length_finRange, List.sum_replicate, smul_eq_mul]
    rw [blockLeaves, List.length_flatMap, hsum, Nat.pow_succ']

/-- Settles O38, by induction on the levels: of a node's children only the one the address selects sees the load. -/
theorem blockWriteChangesOneWord : Obligations.BlockWriteChangesOneWord := blockOut_blockEdge

/-- Settles O41, by induction on the levels for the number of leaves; the rows of R48's table are computed. -/
theorem blockHoldsEightToTheLWords : Obligations.BlockHoldsEightToTheLWords :=
  ⟨length_blockLeaves, by decide, by decide⟩

end Sys2Proof.Machine
end

section
/-! The step through decoding and dispatch is the composed computer's cycle on the raw word (R114). -/

namespace Sys2Proof.Machine

/-- Six control bits, c1 the highest, as the vector the encoding table writes. -/
theorem ofBoolListBE_getLsbD (c : BitVec 6) :
    BitVec.ofBoolListBE [c.getLsbD 5, c.getLsbD 4, c.getLsbD 3, c.getLsbD 2, c.getLsbD 1, c.getLsbD 0] = c := by
  decide +revert

/-- Each row the decoder names has, in the encoding table, the control bits and the a-bit it was found by. -/
theorem formOf_compRow (c1 c2 c3 c4 c5 c6 a : Bool) (f : CFields) :
    formOf (compRow c1 c2 c3 c4 c5 c6 a f) = .c a (BitVec.ofBoolListBE [c1, c2, c3, c4, c5, c6]) f := by
  fun_cases compRow c1 c2 c3 c4 c5 c6 a f <;> rfl

/-- The encoding table is the decoder's inverse on every form (R76, R79). -/
@[simp] theorem formOf_instrOfForm (form : Form) : formOf (instrOfForm form) = form := by
  cases form with
  | a v => rfl
  | c a c f => rw [instrOfForm, formOf_compRow, ofBoolListBE_getLsbD]

theorem decodeForm_of_bit15 {w : Word16} (h : w.getLsbD 15 = true) :
    decodeForm w = .c (w.getLsbD 12) (w.extractLsb' 6 6)
      ⟨w.extractLsb' 13 2, ⟨w.getLsbD 5, w.getLsbD 4, w.getLsbD 3⟩,
        ⟨w.getLsbD 2, w.getLsbD 1, w.getLsbD 0⟩⟩ := if_pos h

theorem decodeForm_of_not_bit15 {w : Word16} (h : w.getLsbD 15 = false) :
    decodeForm w = .a (w.extractLsb' 0 15) := if_neg (by rw [h]; exact Bool.false_ne_true)

/-- A step on a word of the compute form is `compute` with the word's fields. -/
theorem step_of_compute_form {s : State} {a : Bool} {c : BitVec 6} {f : CFields}
    (h : decodeForm (fetch s) = .c a c f) : step s = .next (compute a c f s) := by
  have hform : formOf (decode (fetch s)) = .c a c f := by rw [decode, formOf_instrOfForm, h]
  exact exec_of_compute_form hform s

/-- A step on a word of the address form is the A-instruction of its literal. -/
theorem step_of_address_form {s : State} {v : Word15} (h : decodeForm (fetch s) = .a v) :
    step s = execAInstr v s := by
  rw [step, decode, h]
  rfl

/-- On a word of the compute form every signal of the CPU is the field that `compute` reads. -/
theorem computerStep_of_bit15 {s : State} (h : (fetch s).getLsbD 15 = true) :
    computerStep s = compute ((fetch s).getLsbD 12) ((fetch s).extractLsb' 6 6)
      ⟨(fetch s).extractLsb' 13 2,
        ⟨(fetch s).getLsbD 5, (fetch s).getLsbD 4, (fetch s).getLsbD 3⟩,
        ⟨(fetch s).getLsbD 2, (fetch s).getLsbD 1, (fetch s).getLsbD 0⟩⟩ s := by
  simp only [computerStep, computerCycle, cpuStep, decoder, aInput, loadA, loadD, writeMSignal, jumpSignal, h,
    Bool.not_true, Bool.false_or, Bool.true_and, if_true]
  rfl

/-- On a word of the address form the CPU loads A with the literal, writes nothing and does not jump. -/
theorem computerStep_of_not_bit15 {s : State} (h : (fetch s).getLsbD 15 = false) :
    execAInstr ((fetch s).extractLsb' 0 15) s = .next (computerStep s) := by
  simp only [computerStep, computerCycle, cpuStep, decoder, aInput, loadA, loadD, writeMSignal, jumpSignal, h,
    Bool.not_false, Bool.true_or, Bool.false_and, Bool.false_eq_true, if_false]
  rfl

/-- One step is one cycle of R114's composed computer: the decoder's signals name the same writes as the
instruction the word decodes to. -/
theorem step_eq_computerStep (s : State) : step s = .next (computerStep s) := by
  cases h : (fetch s).getLsbD 15 with
  | true => rw [step_of_compute_form (decodeForm_of_bit15 h), computerStep_of_bit15 h]
  | false => rw [step_of_address_form (decodeForm_of_not_bit15 h), computerStep_of_not_bit15 h]

/-- A run of `n + 1` cycles is one cycle of the composed computer and then a run of `n`. -/
theorem runCycles_succ_computerStep (n : Nat) (s : State) :
    runCycles (n + 1) s = runCycles n (computerStep s) :=
  runCycles_succ n (step_eq_computerStep s)

end Sys2Proof.Machine
end

section
/-! What memory holds after a run, from the writes that the CPU's ports showed (R58). -/

namespace Sys2Proof.Machine

@[simp] theorem latestWrite_nil (m : Memory) (x : Word15) : latestWrite [] m x = Memory.read m x := rfl

theorem latestWrite_singleton (p : Word15 × Word16) (m : Memory) (x : Word15) :
    latestWrite [p] m x = if x = p.1 then p.2 else Memory.read m x := by
  by_cases h : x = p.1
  · simp [latestWrite, h]
  · simp [latestWrite, h, Ne.symm h]

/-- Earlier writes matter only for what memory held before the later ones. -/
theorem latestWrite_append (later earlier : List (Word15 × Word16)) {start between : Memory} {x : Word15}
    (h : Memory.read between x = latestWrite earlier start x) :
    latestWrite (later ++ earlier) start x = latestWrite later between x := by
  simp only [latestWrite, List.find?_append] at h ⊢
  cases later.find? (fun p => p.1 == x) with
  | some p => rfl
  | none => exact h.symm

/-- The memory write that the ports show in the cycle of a state, if any (R109). -/
def portWrites (s : State) : List (Word15 × Word16) :=
  if (computerCycle s).writeM then [((computerCycle s).addressM, (computerCycle s).outM)] else []

theorem writesLatestFirst_succ (n : Nat) (s : State) :
    writesLatestFirst (n + 1) s = writesLatestFirst n (computerStep s) ++ portWrites s := rfl

/-- One cycle changes memory by the write that its ports show. -/
theorem read_computerStep_ram (s : State) (x : Word15) :
    Memory.read (computerStep s).ram x = latestWrite (portWrites s) s.ram x := by
  cases h : (computerCycle s).writeM with
  | false => simp [computerStep, portWrites, h]
  | true => simp [computerStep, portWrites, h, latestWrite_singleton, read_write]

/-- Settles O45, by induction on the cycles: the first cycle's write is the earliest, and the rest of the run starts
from the memory it leaves. -/
theorem readsReturnTheLatestWrite : Obligations.ReadsReturnTheLatestWrite := by
  intro n
  induction n with
  | zero =>
    intro s t h x
    cases h
    rfl
  | succ n ih =>
    intro s t h x
    rw [runCycles_succ_computerStep] at h
    rw [ih _ t h x, writesLatestFirst_succ]
    exact (latestWrite_append _ _ (read_computerStep_ram s x)).symm

end Sys2Proof.Machine
end

section
/-! Bit 15 of a word alone selects the form of the instruction it decodes to (R70). -/

namespace Sys2Proof.Machine

/-- The instruction a word decodes to has the fields that the decoder read from the word. -/
theorem formOf_decode (w : Word16) : formOf (decode w) = decodeForm w := formOf_instrOfForm (decodeForm w)

/-- The A-instruction is the only instruction of the address form, so a word decodes to it iff its fields are read
so. -/
theorem decode_eq_aInstr_iff (w : Word16) (v : Word15) : decode w = .aInstr v ↔ decodeForm w = .a v := by
  rw [← formOf_decode]
  constructor
  · intro h
    rw [h]
    rfl
  · exact eq_aInstr_of_form

/-- Settles O3, by the two values of bit 15: each gives a word of one form, and no word is of both forms. -/
theorem highBitAloneSelectsTheForm : Obligations.HighBitAloneSelectsTheForm := by
  intro w
  simp only [decode_eq_aInstr_iff, formOf_decode]
  cases h : w.getLsbD 15 with
  | true => simp [decodeForm_of_bit15 h]
  | false => simp [decodeForm_of_not_bit15 h]

end Sys2Proof.Machine
end

section
/-! Every cycle completes: a run is the composed computer's run (R114), and no instruction stops the machine (R113). -/

namespace Sys2Proof.Machine

/-- A run never stops: it is the iteration of R114's cycle on the raw word. -/
theorem runCycles_eq_datapathRun (n : Nat) (s : State) : runCycles n s = .next (datapathRun n s) := by
  induction n generalizing s with
  | zero => rfl
  | succ n ih =>
    rw [runCycles_succ_computerStep, ih]
    rfl

/-- Settles O7: one step is one cycle by the signals of the decoder, and a run is such cycles by induction on their
number. -/
theorem runIsTheDatapathRun : Obligations.RunIsTheDatapathRun :=
  ⟨step_eq_computerStep, runCycles_eq_datapathRun⟩

/-- Every instruction answers a next state in every state, because each of the two forms does (R113). -/
theorem exec_completes (i : Instr) (s : State) : ∃ t, exec i s = .next t := by
  cases hform : formOf i with
  | a v =>
    rw [eq_aInstr_of_form hform]
    exact ⟨_, rfl⟩
  | c a c f => exact ⟨compute a c f s, exec_of_compute_form hform s⟩

/-- Settles O8: the decoder is total, and every instruction it answers completes. -/
theorem everyWordExecutesInEveryState : Obligations.EveryWordExecutesInEveryState :=
  fun w s => exec_completes (decode w) s

end Sys2Proof.Machine
end

section
/-! The address-instruction's word is its literal, zero-extended, and its whole effect (R71, R130). -/

namespace Sys2Proof.Machine

/-- A literal written as a 16-bit word is its zero extension (R73). -/
theorem ofNat_toNat_eq_zext16 (v : Word15) : BitVec.ofNat 16 v.toNat = zext16 v := BitVec.ofNat_toNat 16 v

@[simp] theorem zext16_getLsbD_15 (v : Word15) : (zext16 v).getLsbD 15 = false := by
  rw [zext16, BitVec.getLsbD_setWidth, BitVec.getLsbD_of_ge v 15 (Nat.le_refl 15), Bool.and_false]

@[simp] theorem low15_zext16 (v : Word15) : low15 (zext16 v) = v := by
  rw [low15, zext16, BitVec.extractLsb'_setWidth_of_le (by decide), BitVec.extractLsb'_eq_self]

theorem encode_aInstr (v : Word15) : encode (.aInstr v) = zext16 v := BitVec.shiftLeft_zero (zext16 v)

/-- The zero extension has bit 15 clear, so it decodes to the A-instruction of its low 15 bits. -/
theorem decode_zext16 (v : Word15) : decode (zext16 v) = .aInstr v := by
  rw [decode_eq_aInstr_iff, decodeForm_of_not_bit15 (zext16_getLsbD_15 v)]
  exact congrArg Form.a (low15_zext16 v)

/-- A cycle that takes no jump goes on to the next address, unless reset holds (R108). -/
@[simp] theorem nextPc_no_jump (reset : Bool) (oldA : Word16) (pc : Word15) :
    nextPc reset false oldA pc = if reset then 0#15 else pc + 1#15 := rfl

/-- The clock edge of an A-instruction loads A, moves PC on and keeps every other field (R130). -/
theorem exec_aInstr (v : Word15) (s : State) :
    exec (.aInstr v) s =
      .next
        { regA := zext16 v
          regD := s.regD
          pc := nextPc (resetPin s) false s.regA s.pc
          ram := s.ram
          rom := s.rom
          resetIn := s.resetIn.tail } := rfl

/-- Settles O9: the word of the literal is its zero extension, which encodes, decodes and is loaded as R130 says. -/
theorem aInstructionLoadsTheLiteral : Obligations.AInstructionLoadsTheLiteral := by
  intro v s
  rw [ofNat_toNat_eq_zext16, exec_aInstr, nextPc_no_jump]
  exact ⟨encode_aInstr v, decode_zext16 v, rfl, zext16_getLsbD_15 v⟩

end Sys2Proof.Machine
end

section
/-! A compute-instruction's word holds each of its fields at R72's bit position, and its whole effect is the one that
R160 gives. -/

namespace Sys2Proof.Machine

/-- A bit of a word, by the word's value. -/
theorem getLsbD_of_div_mod {w : Word16} {i : Nat} {b : Bool} (h : w.toNat / 2 ^ i % 2 = b.toNat) :
    w.getLsbD i = b := by
  rw [← BitVec.testBit_toNat, Nat.testBit_eq_decide_div_mod_eq, h]
  cases b <;> rfl

/-- A field of a word, by the word's value. -/
theorem extractLsb'_of_div_mod {w : Word16} {i n : Nat} {field : BitVec n}
    (h : w.toNat / 2 ^ i % 2 ^ n = field.toNat) : w.extractLsb' i n = field := by
  apply BitVec.eq_of_toNat_eq
  rw [BitVec.extractLsb'_toNat, Nat.shiftRight_eq_div_pow, h]

theorem cWord_toNat (a : Bool) (c : BitVec 6) (f : CFields) :
    (cWord a c f).toNat =
      (32768 + 8192 * f.ignored.toNat + 4096 * a.toNat + 64 * c.toNat
        + 32 * f.dest.dA.toNat + 16 * f.dest.dD.toNat + 8 * f.dest.dM.toNat
        + 4 * f.jump.j1.toNat + 2 * f.jump.j2.toNat + f.jump.j3.toNat) % 2 ^ 16 :=
  BitVec.toNat_ofNat _ 16

/-- The decoder reads from `1xxaccccccdddjjj` the fields that the word was built from (R72, R80): the weights of a
field do not reach into the next one. -/
@[simp] theorem decodeForm_cWord (a : Bool) (c : BitVec 6) (f : CFields) :
    decodeForm (cWord a c f) = .c a c f := by
  have hval := cWord_toNat a c f
  generalize cWord a c f = w at hval ⊢
  have ha := a.toNat_lt
  have hdA := f.dest.dA.toNat_lt
  have hdD := f.dest.dD.toNat_lt
  have hdM := f.dest.dM.toNat_lt
  have hj1 := f.jump.j1.toNat_lt
  have hj2 := f.jump.j2.toNat_lt
  have hj3 := f.jump.j3.toNat_lt
  have h15 : w.getLsbD 15 = true := getLsbD_of_div_mod (by rw [Bool.toNat_true]; omega)
  have h13 : w.extractLsb' 13 2 = f.ignored := extractLsb'_of_div_mod (by omega)
  have h12 : w.getLsbD 12 = a := getLsbD_of_div_mod (by omega)
  have h6 : w.extractLsb' 6 6 = c := extractLsb'_of_div_mod (by omega)
  have h5 : w.getLsbD 5 = f.dest.dA := getLsbD_of_div_mod (by omega)
  have h4 : w.getLsbD 4 = f.dest.dD := getLsbD_of_div_mod (by omega)
  have h3 : w.getLsbD 3 = f.dest.dM := getLsbD_of_div_mod (by omega)
  have h2 : w.getLsbD 2 = f.jump.j1 := getLsbD_of_div_mod (by omega)
  have h1 : w.getLsbD 1 = f.jump.j2 := getLsbD_of_div_mod (by omega)
  have h0 : w.getLsbD 0 = f.jump.j3 := getLsbD_of_div_mod (by omega)
  rw [decodeForm_of_bit15 h15, h13, h12, h6, h5, h4, h3, h2, h1, h0]

/-- The model's shared operation and R160's closed form are the same effect. -/
theorem compute_eq_afterCompute (a : Bool) (c : BitVec 6) (f : CFields) (s : State) :
    compute a c f s = afterCompute s f (aluIn s a c).out (aluIn s a c).zr (aluIn s a c).ng := rfl

/-- Settles O10: the word decodes to an instruction with its own fields, whose operation has R160's effect. -/
theorem computeInstructionGeneralRule : Obligations.ComputeInstructionGeneralRule := by
  intro a c f s
  have hform : formOf (decode (cWord a c f)) = .c a c f := by rw [formOf_decode, decodeForm_cWord]
  rw [exec_of_compute_form hform, compute_eq_afterCompute]

end Sys2Proof.Machine
end

section
/-! What each dest stores and when each jump is taken, from the general rule of the compute-instruction (R140 to
R157). -/

namespace Sys2Proof.Machine

theorem memoryKept_of_ram_eq {s t : State} (h : t.ram = s.ram) : MemoryKept s t := by
  intro x
  rw [h]

theorem wroteAtOldA_of_ram_eq {s t : State} {out : Word16}
    (h : t.ram = Memory.write s.ram (s.regA.extractLsb' 0 15) out) : WroteAtOldA s out t := by
  intro x
  rw [h, read_write]

/-- A rule about dest `d` holds if it follows from what R160 loads into A, D and memory with the bits of `d`. -/
theorem stores_of_dest {d : Dest} {post : State → Word16 → State → Prop}
    (h : ∀ (s : State) (out : Word16) (t : State),
      t.regA = (if d.dA then out else s.regA) → t.regD = (if d.dD then out else s.regD) →
      t.ram = (if d.dM then Memory.write s.ram (s.regA.extractLsb' 0 15) out else s.ram) →
      post s out t) : Stores d post := by
  intro a c ignored j s
  exact ⟨_, computeInstructionGeneralRule a c ⟨ignored, d, j⟩ s, rfl, h _ _ _ rfl rfl rfl⟩

/-- Settles O25, dest by dest: each dest's bits choose which of A and D is loaded and whether memory is written. -/
theorem destinationsReceiveTheResult : Obligations.DestinationsReceiveTheResult :=
  ⟨stores_of_dest fun _ _ _ hA hD hM => ⟨hA, hD, memoryKept_of_ram_eq hM⟩,
    stores_of_dest fun _ _ _ hA hD hM => ⟨hA, hD, wroteAtOldA_of_ram_eq hM⟩,
    stores_of_dest fun _ _ _ hA hD hM => ⟨hA, hD, memoryKept_of_ram_eq hM⟩,
    stores_of_dest fun _ _ _ hA hD hM => ⟨hA, hD, wroteAtOldA_of_ram_eq hM⟩,
    stores_of_dest fun _ _ _ hA hD hM => ⟨hA, hD, memoryKept_of_ram_eq hM⟩,
    stores_of_dest fun _ _ _ hA hD hM => ⟨hA, hD, memoryKept_of_ram_eq hM⟩,
    stores_of_dest fun _ _ _ hA hD hM => ⟨hA, hD, wroteAtOldA_of_ram_eq hM⟩⟩

/-- No result is both zero and negative (R173). -/
theorem alu_not_zr_and_ng (x y : Word16) (c : BitVec 6) :
    ((alu x y c).zr && (alu x y c).ng) = false := by
  rw [alu_zr, alu_ng]
  generalize (alu x y c).out = out
  by_cases h : out = 0#16
  · simp [negativeFlag, h]
  · simp [zeroFlag, h]

/-- A jump is taken when `cond` holds of the flags, if `cond` agrees with R107's condition on every pair of flags that
an ALU result can have. -/
theorem jumpsWhen_of_jumpCondition {j : Jump} {cond : Bool → Bool → Bool}
    (h : ∀ zr ng, (zr && ng) = false → jumpCondition j zr ng = cond zr ng) : JumpsWhen j cond := by
  intro a c ignored d s
  have hcond : jumpCondition j (aluIn s a c).zr (aluIn s a c).ng = cond (aluIn s a c).zr (aluIn s a c).ng :=
    h _ _ (alu_not_zr_and_ng s.regD (secondOperand s a) c)
  exact ⟨_, computeInstructionGeneralRule a c ⟨ignored, d, j⟩ s, congrArg (pcAfter s) hcond⟩

/-- Settles O27, jump by jump: over the flags of one result each rule's condition is R107's formula. That no result is
both zero and negative is what `!ng` for `JGE` and `!zr` for `JNE` need. -/
theorem jumpsAreTakenByTheirConditions : Obligations.JumpsAreTakenByTheirConditions := by
  refine ⟨?none, ?JGT, ?JEQ, ?JGE, ?JGE_not_ng, ?JLT, ?JNE, ?JNE_not_zr, ?JLE⟩ <;>
    exact jumpsWhen_of_jumpCondition (by decide)

end Sys2Proof.Machine
end

section
/-! The encoder puts back every bit that the decoder reads, so a compute-instruction's word is the one that its fields
weigh to (R72, R79). -/

namespace Sys2Proof.Machine

/-- A placed field is shifted up to its position: below it the word has zeros. -/
theorem getElem_place {n : Nat} (i : Nat) (field : BitVec n) {j : Nat} (hj : j < 16) :
    (place i field)[j] = (!decide (j < i) && field.getLsbD (j - i)) := by
  simp [place]

/-- The encoder undoes the decoder's reading of the fields: at each bit, the field that was read there is put back. -/
theorem encodeForm_decodeForm (w : Word16) : encodeForm (decodeForm w) = w := by
  apply BitVec.eq_of_getElem_eq
  intro i hi
  cases h : w.getLsbD 15 with
  | true =>
    simp only [decodeForm_of_bit15 h, encodeForm, BitVec.getElem_or, getElem_place]
    interval_cases i <;> simp [← BitVec.getLsbD_eq_getElem, h]
  | false =>
    simp only [decodeForm_of_not_bit15 h, encodeForm, getElem_place]
    interval_cases i <;> simp [← BitVec.getLsbD_eq_getElem, h]

/-- The encoder's word of a compute form is the sum of its fields' weights, because that word decodes to the form. -/
theorem encodeForm_c (a : Bool) (c : BitVec 6) (f : CFields) : encodeForm (.c a c f) = cWord a c f := by
  rw [← decodeForm_cWord, encodeForm_decodeForm]

/-- Each instruction's row of the encoding table selects that instruction again (R76, R208, R209). -/
@[simp] theorem instrOfForm_formOf (i : Instr) : instrOfForm (formOf i) = i := by
  cases i <;> rfl

end Sys2Proof.Machine
end

section
/-! The default ALU on the control values of the documented comps (R175): R171 makes each the expression in `x` and `y`
that R180 to R207 write, and that expression is the function the comp is named for. -/

namespace Sys2Proof.Machine

/-- Adding all ones is subtracting one. -/
theorem add_not_zero (v : Word16) : v + ~~~0#16 = v - 1#16 := (BitVec.sub_eq_add_neg v 1#16).symm

/-- Subtracting all ones is adding one. -/
theorem sub_not_zero (v : Word16) : v - ~~~0#16 = v + 1#16 := BitVec.sub_neg (y := 1#16)

/-- With the first operand and the result complemented, the adder subtracts. -/
theorem not_not_add (v w : Word16) : ~~~(~~~v + w) = v - w := by
  rw [← BitVec.not_sub_eq_not_add, BitVec.not_not]

/-- With the second operand and the result complemented, the adder subtracts the other way round. -/
theorem not_add_not (v w : Word16) : ~~~(v + ~~~w) = w - v := by
  rw [BitVec.add_comm, not_not_add]

theorem aluResult_zero (x y : Word16) : aluResult x y 0b101010#6 = 0x0000#16 :=
  show 0#16 + 0#16 = 0x0000#16 by decide

theorem aluResult_one (x y : Word16) : aluResult x y 0b111111#6 = 0x0001#16 :=
  show ~~~(~~~0#16 + ~~~0#16) = 0x0001#16 by decide

theorem aluResult_neg_one (x y : Word16) : aluResult x y 0b111010#6 = 0xFFFF#16 :=
  show ~~~0#16 + 0#16 = 0xFFFF#16 by decide

theorem aluResult_x (x y : Word16) : aluResult x y 0b001100#6 = x :=
  show x &&& ~~~0#16 = x from BitVec.and_allOnes

theorem aluResult_y (x y : Word16) : aluResult x y 0b110000#6 = y :=
  show ~~~0#16 &&& y = y from BitVec.allOnes_and

theorem aluResult_not_x (x y : Word16) : aluResult x y 0b001101#6 = ~~~x :=
  show ~~~(x &&& ~~~0#16) = ~~~x by rw [BitVec.not_zero, BitVec.and_allOnes]

theorem aluResult_not_y (x y : Word16) : aluResult x y 0b110001#6 = ~~~y :=
  show ~~~(~~~0#16 &&& y) = ~~~y by rw [BitVec.not_zero, BitVec.allOnes_and]

theorem aluResult_neg_x (x y : Word16) : aluResult x y 0b001111#6 = 0#16 - x :=
  show ~~~(x + ~~~0#16) = 0#16 - x from not_add_not x 0#16

theorem aluResult_neg_y (x y : Word16) : aluResult x y 0b110011#6 = 0#16 - y :=
  show ~~~(~~~0#16 + y) = 0#16 - y from not_not_add 0#16 y

theorem aluResult_x_add_one (x y : Word16) : aluResult x y 0b011111#6 = x + 1#16 :=
  show ~~~(~~~x + ~~~0#16) = x + 1#16 by rw [not_not_add, sub_not_zero]

theorem aluResult_y_add_one (x y : Word16) : aluResult x y 0b110111#6 = y + 1#16 :=
  show ~~~(~~~0#16 + ~~~y) = y + 1#16 by rw [not_add_not, sub_not_zero]

theorem aluResult_x_sub_one (x y : Word16) : aluResult x y 0b001110#6 = x - 1#16 :=
  show x + ~~~0#16 = x - 1#16 from add_not_zero x

theorem aluResult_y_sub_one (x y : Word16) : aluResult x y 0b110010#6 = y - 1#16 :=
  show ~~~0#16 + y = y - 1#16 by rw [BitVec.add_comm, add_not_zero]

theorem aluResult_x_add_y (x y : Word16) : aluResult x y 0b000010#6 = x + y := rfl

theorem aluResult_x_sub_y (x y : Word16) : aluResult x y 0b010011#6 = x - y :=
  show ~~~(~~~x + y) = x - y from not_not_add x y

theorem aluResult_y_sub_x (x y : Word16) : aluResult x y 0b000111#6 = y - x :=
  show ~~~(x + ~~~y) = y - x from not_add_not x y

theorem aluResult_x_and_y (x y : Word16) : aluResult x y 0b000000#6 = x &&& y := rfl

theorem aluResult_x_or_y (x y : Word16) : aluResult x y 0b010101#6 = x ||| y :=
  show ~~~(~~~x &&& ~~~y) = x ||| y by rw [← BitVec.not_or, BitVec.not_not]

end Sys2Proof.Machine
end

section
/-! The documented comps (R180 to R207): each is a row of the encoding table together with the function that the default
ALU computes with that row's control bits. -/

namespace Sys2Proof.Machine

/-- The ALU's answer in a state is its result with the flags of R172. -/
theorem aluIn_eq (s : State) (a : Bool) (c : BitVec 6) :
    aluIn s a c = ⟨aluResult s.regD (secondOperand s a) c,
      decide (aluResult s.regD (secondOperand s a) c = 0#16),
      (aluResult s.regD (secondOperand s a) c).getLsbD 15⟩ := rfl

/-- The instructions `mk` perform `fn` if the default ALU computes `fn` with their control bits: the encoder and the
decoder agree on their word, and R160's effect is that of the ALU's result.
The row of the encoding table that `mk` names is read off the table. -/
theorem performs_of_aluResult {mk : CFields → Instr} {a : Bool} {c : BitVec 6}
    {fn : Word16 → Word16 → Word16} (hfn : ∀ x y, aluResult x y c = fn x y)
    (hform : ∀ f, formOf (mk f) = .c a c f := by exact fun _ => rfl) : Performs mk a c fn := by
  intro f s
  rw [← hfn]
  refine ⟨?encode, ?decode, ?effect⟩
  case encode => rw [encode, hform, encodeForm_c]
  case decode => rw [decode, decodeForm_cWord, ← hform, instrOfForm_formOf]
  case effect => rw [exec_of_compute_form (hform f), compute_eq_afterCompute, aluIn_eq]

/-- Settles O11: the ALU's constants, and its copies of either operand. -/
theorem compConstantsAndCopies : Obligations.CompConstantsAndCopies :=
  ⟨performs_of_aluResult aluResult_zero, performs_of_aluResult aluResult_one,
    performs_of_aluResult aluResult_neg_one, performs_of_aluResult aluResult_x,
    performs_of_aluResult aluResult_y, performs_of_aluResult aluResult_y⟩

/-- Settles O12: the ALU complements the copy of an operand. -/
theorem compBitwiseNots : Obligations.CompBitwiseNots :=
  ⟨performs_of_aluResult aluResult_not_x, performs_of_aluResult aluResult_not_y,
    performs_of_aluResult aluResult_not_y⟩

/-- Settles O13: the ALU's subtraction, from an operand that is zeroed. -/
theorem compNegations : Obligations.CompNegations :=
  ⟨performs_of_aluResult aluResult_neg_x, performs_of_aluResult aluResult_neg_y,
    performs_of_aluResult aluResult_neg_y⟩

/-- Settles O14: the ALU's subtraction of all ones. -/
theorem compIncrements : Obligations.CompIncrements :=
  ⟨performs_of_aluResult aluResult_x_add_one, performs_of_aluResult aluResult_y_add_one,
    performs_of_aluResult aluResult_y_add_one⟩

/-- Settles O15: the ALU's addition of all ones. -/
theorem compDecrements : Obligations.CompDecrements :=
  ⟨performs_of_aluResult aluResult_x_sub_one, performs_of_aluResult aluResult_y_sub_one,
    performs_of_aluResult aluResult_y_sub_one⟩

/-- Settles O16: the ALU's addition, and its subtraction in either order. -/
theorem compSumsAndDifferences : Obligations.CompSumsAndDifferences :=
  ⟨performs_of_aluResult aluResult_x_add_y, performs_of_aluResult aluResult_x_add_y,
    performs_of_aluResult aluResult_x_sub_y, performs_of_aluResult aluResult_x_sub_y,
    performs_of_aluResult aluResult_y_sub_x, performs_of_aluResult aluResult_y_sub_x⟩

/-- Settles O17: the ALU's conjunction, and the disjunction that De Morgan's law makes of it. -/
theorem compAndsAndOrs : Obligations.CompAndsAndOrs :=
  ⟨performs_of_aluResult aluResult_x_and_y, performs_of_aluResult aluResult_x_and_y,
    performs_of_aluResult aluResult_x_or_y, performs_of_aluResult aluResult_x_or_y⟩

end Sys2Proof.Machine
end

section
/-! The encoder and the decoder undo each other, because the two readings of a word's fields do and the two readings of
the encoding table do (R76, R79, R80). -/

namespace Sys2Proof.Machine

theorem decodeForm_zext16 (v : Word15) : decodeForm (zext16 v) = .a v :=
  (decode_eq_aInstr_iff (zext16 v) v).mp (decode_zext16 v)

/-- The decoder reads back the fields that the encoder has placed. -/
@[simp] theorem decodeForm_encodeForm (form : Form) : decodeForm (encodeForm form) = form := by
  cases form with
  | a v => exact (congrArg decodeForm (encode_aInstr v)).trans (decodeForm_zext16 v)
  | c a c f => rw [encodeForm_c, decodeForm_cWord]

/-- Settles O1: the fields come back from the word, and the instruction from its row of the table. -/
theorem decodeOfEncodeIsTheInstruction : Obligations.DecodeOfEncodeIsTheInstruction := by
  intro i
  rw [decode, encode, decodeForm_encodeForm, instrOfForm_formOf]

/-- Settles O2: the row comes back from the instruction, and the word from its fields. -/
theorem encodeOfDecodeIsTheWord : Obligations.EncodeOfDecodeIsTheWord := by
  intro w
  rw [encode, formOf_decode, encodeForm_decodeForm]

/-- Settles O4: the fields are those of the decoder's two readings, and R160's effect does not name bits 14..13. -/
theorem decoderReadsTheFieldsOfR80 : Obligations.DecoderReadsTheFieldsOfR80 := by
  constructor
  · intro w
    rw [formOf_decode]
    cases h : w.getLsbD 15 with
    | true => simp [decodeForm_of_bit15 h]
    | false => simp [decodeForm_of_not_bit15 h]
  · intro a c ignored ignored' d j s
    rw [computeInstructionGeneralRule, computeInstructionGeneralRule]
    rfl

/-- Settles O5: each word's fields are computed, and with them its row. -/
theorem writtenOutWordsDecode : Obligations.WrittenOutWordsDecode :=
  ⟨by decide, by decide, by decide, by decide, by decide, by decide⟩

/-- Settles O6: a step decodes the word at PC and executes what it decoded. -/
theorem stepRunsTheDecodedInstruction : Obligations.StepRunsTheDecodedInstruction := by
  rintro s i rfl
  rfl

end Sys2Proof.Machine
end

section
/-! Every cycle is its clock edge on the writes that the instruction schedules, and the edge keeps the memories in
canonical form. -/

namespace Sys2Proof.Machine

/-- What an instruction can do: it answers the clock edge on some scheduled writes (R100). -/
theorem exec_eq_clockEdge (i : Instr) (s : State) : ∃ w, exec i s = .next (clockEdge s w) := by
  cases hform : formOf i with
  | a v =>
    rw [eq_aInstr_of_form hform]
    exact ⟨_, rfl⟩
  | c a c f =>
    rw [exec_of_compute_form hform]
    exact ⟨_, rfl⟩

theorem wf_iff (s : State) : s.wf = true ↔ Memory.wf s.ram = true ∧ Memory.wf s.rom = true := by
  rw [State.wf, Bool.and_eq_true]

/-- The clock edge keeps the canonical form: it writes at most one word of RAM, and none of ROM. -/
theorem wf_clockEdge (s : State) (w : Writes) (h : s.wf = true) : (clockEdge s w).wf = true := by
  rw [wf_iff] at h ⊢
  obtain ⟨hram, hrom⟩ := h
  refine ⟨?_, hrom⟩
  rw [clockEdge_ram]
  split
  · exact wf_write _ _ _ hram
  · exact hram

/-- Settles O50: a step is a clock edge. -/
theorem stepKeepsMemoriesCanonical : Obligations.StepKeepsMemoriesCanonical := by
  intro s t hwf hstep
  obtain ⟨w, hw⟩ := exec_eq_clockEdge (decode (fetch s)) s
  rw [step, hw] at hstep
  cases hstep
  exact wf_clockEdge s w hwf

/-- Settles O51: both memories are empty, so no cell breaks the order, and each word reads as the unlisted one. -/
theorem resetStateIsWellFormed : Obligations.ResetStateIsWellFormed :=
  ⟨rfl, rfl, rfl, rfl, fun _ => rfl, rfl, rfl⟩

end Sys2Proof.Machine
end

section
/-! The computer wired to the recursive RAM32K block is the machine (R30, R54): a block in place of the memory answers
every read alike, before the cycle and after its write. -/

namespace Sys2Proof.Machine

/-- With the wired computer's registers and word at A, the CPU's cycle is the same. -/
theorem cpuStep_of_wires {s : State} {c : WiredComputer} (h : Wires s c) :
    cpuStep alu c.cpu (Memory.read s.rom c.cpu.pc)
      (blockOut Config.memoryLevels c.ram (low15 c.cpu.regA)) (resetPin s) = computerCycle s := by
  obtain ⟨hcpu, hram⟩ := h
  rw [hram, hcpu]
  rfl

/-- One cycle keeps the wiring: the block's edge and the memory's write follow the same law of read after write. -/
theorem wires_computerStep {s : State} {c : WiredComputer} (h : Wires s c) :
    Wires (computerStep s) (wiredStep alu s.rom (resetPin s) c) := by
  rw [wiredStep, cpuStep_of_wires h]
  obtain ⟨-, hram⟩ := h
  refine ⟨rfl, fun x => ?_⟩
  rw [blockOut_blockEdge, hram]
  cases hw : (computerCycle s).writeM with
  | true => simp [computerStep, hw, read_write]
  | false => simp [computerStep, hw]

/-- Settles O42: the step is the cycle of the composed computer, which keeps the wiring. -/
theorem wiredComputerSimulatesTheMachine : Obligations.WiredComputerSimulatesTheMachine :=
  fun s _ h => ⟨computerStep s, step_eq_computerStep s, wires_computerStep h⟩

end Sys2Proof.Machine
end

section
/-! Bit-vector forms of what the default ALU computes (R171) with operands or result complemented, and with an operand
that is zeroed. -/

namespace Sys2Proof.Machine

theorem not_add (v w : Word16) : ~~~(v + w) = 0#16 - v - w - 1#16 := by bv_omega

/-- With the second operand complemented, the adder subtracts one too many. -/
theorem add_not (v w : Word16) : v + ~~~w = v - w - 1#16 := by bv_omega

/-- With the first operand complemented, the adder subtracts the other way round, and one too many. -/
theorem not_add_eq_sub (v w : Word16) : ~~~v + w = w - v - 1#16 := by rw [BitVec.add_comm, add_not]

theorem not_add_not_eq_neg (v w : Word16) : ~~~v + ~~~w = 0#16 - v - w - 2#16 := by bv_omega

theorem not_add_not_zero (v : Word16) : ~~~v + ~~~0#16 = 0#16 - v - 2#16 := by bv_omega

theorem not_zero_add_not (v : Word16) : ~~~0#16 + ~~~v = 0#16 - v - 2#16 := by
  rw [BitVec.add_comm, not_add_not_zero]

theorem not_not_add_not (v w : Word16) : ~~~(~~~v + ~~~w) = v + w + 1#16 := by bv_omega

theorem not_not_and (v w : Word16) : ~~~(~~~v &&& w) = v ||| ~~~w := by rw [BitVec.not_and, BitVec.not_not]

theorem not_and_not (v w : Word16) : ~~~(v &&& ~~~w) = ~~~v ||| w := by rw [BitVec.not_and, BitVec.not_not]

theorem not_and_zero (v : Word16) : ~~~(v &&& 0#16) = 0xFFFF#16 := by
  rw [BitVec.and_zero]
  rfl

theorem not_zero_and (v : Word16) : ~~~(0#16 &&& v) = 0xFFFF#16 := by
  rw [BitVec.zero_and]
  rfl

end Sys2Proof.Machine
end

section
/-! The default ALU on the other control values: the a = 1 aliases, which read no second operand (R208), and the
46 non-documented codes (R209). Each row writes out what R171 computes with its control bits. -/

namespace Sys2Proof.Machine

/-- With control bits whose result does not depend on the second operand, the a-bit changes nothing. -/
theorem compute_of_plain_aluResult {c : BitVec 6} {fn : Word16 → Word16}
    (hfn : ∀ x y, aluResult x y c = fn x) (a a' : Bool) (f : CFields) (s : State) :
    compute a c f s = compute a' c f s := by
  rw [compute_eq_afterCompute, compute_eq_afterCompute, aluIn_eq, aluIn_eq, hfn, hfn]

/-- Two instructions that differ in the a-bit have one effect if their result does not depend on the second operand. -/
theorem exec_eq_of_plain_aluResult {i i' : Instr} {a a' : Bool} {c : BitVec 6} {f : CFields}
    {fn : Word16 → Word16} (hfn : ∀ x y, aluResult x y c = fn x) (s : State)
    (hi : formOf i = .c a c f := by exact rfl) (hi' : formOf i' = .c a' c f := by exact rfl) :
    exec i s = exec i' s := by
  rw [exec_of_compute_form hi, exec_of_compute_form hi', compute_of_plain_aluResult hfn]

/-- Settles O18: the aliases have the documented control bits, whose results do not depend on the second operand. -/
theorem aliasesComputeAsWithAZero : Obligations.AliasesComputeAsWithAZero :=
  ⟨performs_of_aluResult aluResult_zero, performs_of_aluResult aluResult_one,
    performs_of_aluResult aluResult_neg_one, performs_of_aluResult aluResult_x,
    performs_of_aluResult aluResult_not_x, performs_of_aluResult aluResult_neg_x,
    performs_of_aluResult aluResult_x_add_one, performs_of_aluResult aluResult_x_sub_one,
    fun _ s =>
      ⟨exec_eq_of_plain_aluResult aluResult_zero s, exec_eq_of_plain_aluResult aluResult_one s,
        exec_eq_of_plain_aluResult aluResult_neg_one s, exec_eq_of_plain_aluResult aluResult_x s,
        exec_eq_of_plain_aluResult aluResult_not_x s, exec_eq_of_plain_aluResult aluResult_neg_x s,
        exec_eq_of_plain_aluResult aluResult_x_add_one s, exec_eq_of_plain_aluResult aluResult_x_sub_one s⟩,
    by decide⟩

theorem performsBoth_of_aluResult {mk : Bool → CFields → Instr} {c : BitVec 6}
    {fn : Word16 → Word16 → Word16} (hfn : ∀ x y, aluResult x y c = fn x y)
    (hform : ∀ a f, formOf (mk a f) = .c a c f := by exact fun _ _ => rfl) : PerformsBoth mk c fn :=
  fun a => performs_of_aluResult hfn (hform a)

/-- Settles O19: the first operand is D itself. -/
theorem nonDocumentedCodesWithPlainX : Obligations.NonDocumentedCodesWithPlainX :=
  ⟨performsBoth_of_aluResult fun x y => show ~~~(x &&& y) = _ from rfl,
    performsBoth_of_aluResult fun x y => show ~~~(x + y) = _ from not_add x y,
    performsBoth_of_aluResult fun x y => show x &&& ~~~y = _ from rfl,
    performsBoth_of_aluResult fun x y => show ~~~(x &&& ~~~y) = _ from not_and_not x y,
    performsBoth_of_aluResult fun x y => show x + ~~~y = _ from add_not x y,
    performsBoth_of_aluResult fun x _ => show x &&& 0#16 = _ from BitVec.and_zero,
    performsBoth_of_aluResult fun x _ => show ~~~(x &&& 0#16) = _ from not_and_zero x,
    performsBoth_of_aluResult fun x _ => show x + 0#16 = _ from BitVec.add_zero x,
    performsBoth_of_aluResult fun x _ => show ~~~(x + 0#16) = _ from congrArg (~~~ ·) (BitVec.add_zero x)⟩

/-- Settles O20: the first operand is the complement of D. -/
theorem nonDocumentedCodesWithNegatedX : Obligations.NonDocumentedCodesWithNegatedX :=
  ⟨performsBoth_of_aluResult fun x y => show ~~~x &&& y = _ from rfl,
    performsBoth_of_aluResult fun x y => show ~~~(~~~x &&& y) = _ from not_not_and x y,
    performsBoth_of_aluResult fun x y => show ~~~x + y = _ from not_add_eq_sub x y,
    performsBoth_of_aluResult fun x y => show ~~~x &&& ~~~y = _ from BitVec.not_or.symm,
    performsBoth_of_aluResult fun x y => show ~~~x + ~~~y = _ from not_add_not_eq_neg x y,
    performsBoth_of_aluResult fun x y => show ~~~(~~~x + ~~~y) = _ from not_not_add_not x y,
    performsBoth_of_aluResult fun x _ => show ~~~x &&& 0#16 = _ from BitVec.and_zero,
    performsBoth_of_aluResult fun x _ => show ~~~(~~~x &&& 0#16) = _ from not_and_zero (~~~x),
    performsBoth_of_aluResult fun x _ => show ~~~x + 0#16 = _ from BitVec.add_zero (~~~x),
    performsBoth_of_aluResult fun x _ => show ~~~(~~~x + 0#16) = _ by rw [BitVec.add_zero, BitVec.not_not],
    performsBoth_of_aluResult fun x _ => show ~~~x &&& ~~~0#16 = _ from BitVec.and_allOnes,
    performsBoth_of_aluResult fun x _ => show ~~~(~~~x &&& ~~~0#16) = _ by
      rw [BitVec.not_zero, BitVec.and_allOnes, BitVec.not_not],
    performsBoth_of_aluResult fun x _ => show ~~~x + ~~~0#16 = _ from not_add_not_zero x⟩

/-- Settles O21: the first operand is zero. -/
theorem nonDocumentedCodesWithZeroX : Obligations.NonDocumentedCodesWithZeroX :=
  ⟨performsBoth_of_aluResult fun _ y => show 0#16 &&& y = _ from BitVec.zero_and,
    performsBoth_of_aluResult fun _ y => show ~~~(0#16 &&& y) = _ from not_zero_and y,
    performsBoth_of_aluResult fun _ y => show 0#16 + y = _ from BitVec.zero_add y,
    performsBoth_of_aluResult fun _ y => show ~~~(0#16 + y) = _ from congrArg (~~~ ·) (BitVec.zero_add y),
    performsBoth_of_aluResult fun _ y => show 0#16 &&& ~~~y = _ from BitVec.zero_and,
    performsBoth_of_aluResult fun _ y => show ~~~(0#16 &&& ~~~y) = _ from not_zero_and (~~~y),
    performsBoth_of_aluResult fun _ y => show 0#16 + ~~~y = _ from BitVec.zero_add (~~~y),
    performsBoth_of_aluResult fun _ y => show ~~~(0#16 + ~~~y) = _ by rw [BitVec.zero_add, BitVec.not_not],
    performsBoth_of_aluResult fun _ _ => show 0#16 &&& 0#16 = _ from rfl,
    performsBoth_of_aluResult fun _ _ => show ~~~(0#16 &&& 0#16) = _ from rfl,
    performsBoth_of_aluResult fun _ _ => show ~~~(0#16 + 0#16) = _ from rfl,
    performsBoth_of_aluResult fun _ _ => show 0#16 &&& ~~~0#16 = _ from rfl,
    performsBoth_of_aluResult fun _ _ => show ~~~(0#16 &&& ~~~0#16) = _ from rfl,
    performsBoth_of_aluResult fun _ _ => show 0#16 + ~~~0#16 = _ from rfl,
    performsBoth_of_aluResult fun _ _ => show ~~~(0#16 + ~~~0#16) = _ from rfl⟩

/-- Settles O22: the first operand is all ones. -/
theorem nonDocumentedCodesWithAllOnesX : Obligations.NonDocumentedCodesWithAllOnesX :=
  ⟨performsBoth_of_aluResult fun _ y => show ~~~0#16 &&& ~~~y = _ from BitVec.allOnes_and,
    performsBoth_of_aluResult fun _ y => show ~~~(~~~0#16 &&& ~~~y) = _ by
      rw [BitVec.not_zero, BitVec.allOnes_and, BitVec.not_not],
    performsBoth_of_aluResult fun _ y => show ~~~0#16 + ~~~y = _ from not_zero_add_not y,
    performsBoth_of_aluResult fun _ _ => show ~~~0#16 &&& 0#16 = _ from rfl,
    performsBoth_of_aluResult fun _ _ => show ~~~(~~~0#16 &&& 0#16) = _ from rfl,
    performsBoth_of_aluResult fun _ _ => show ~~~(~~~0#16 + 0#16) = _ from rfl,
    performsBoth_of_aluResult fun _ _ => show ~~~0#16 &&& ~~~0#16 = _ from rfl,
    performsBoth_of_aluResult fun _ _ => show ~~~(~~~0#16 &&& ~~~0#16) = _ from rfl,
    performsBoth_of_aluResult fun _ _ => show ~~~0#16 + ~~~0#16 = _ from rfl⟩

/-- Settles O23: the functions are those of the documented comps, the two negations spelled as negations. -/
theorem documentedAluFunctions : Obligations.DocumentedAluFunctions := fun x y =>
  ⟨aluResult_zero x y, aluResult_one x y, aluResult_neg_one x y, aluResult_x x y, aluResult_y x y,
    aluResult_not_x x y, aluResult_not_y x y, (aluResult_neg_x x y).trans (BitVec.zero_sub x),
    (aluResult_neg_y x y).trans (BitVec.zero_sub y), aluResult_x_add_one x y, aluResult_y_add_one x y,
    aluResult_x_sub_one x y, aluResult_y_sub_one x y, aluResult_x_add_y x y, aluResult_x_sub_y x y,
    aluResult_y_sub_x x y, aluResult_x_and_y x y, aluResult_x_or_y x y⟩

end Sys2Proof.Machine
end

section
/-! The flags of a result read it as a two's-complement number (R172, R173). -/

namespace Sys2Proof.Machine

theorem zeroFlag_iff (out : Word16) : zeroFlag out = true ↔ out = 0#16 := beq_iff_eq

theorem zeroFlag_iff_toInt (out : Word16) : zeroFlag out = true ↔ out.toInt = 0 := by
  rw [zeroFlag_iff, ← BitVec.toInt_inj, BitVec.toInt_zero]

theorem negativeFlag_iff_toInt (out : Word16) : negativeFlag out = true ↔ out.toInt < 0 := by
  have hmsb : negativeFlag out = out.msb := (BitVec.msb_eq_getLsbD_last out).symm
  rw [hmsb, BitVec.msb_eq_toInt, decide_eq_true_eq]

theorem positiveSignal_iff_toInt (out : Word16) :
    positiveSignal (zeroFlag out) (negativeFlag out) = true ↔ 0 < out.toInt := by
  have hz := zeroFlag_iff_toInt out
  have hn := negativeFlag_iff_toInt out
  rw [positiveSignal, Bool.and_eq_true, Bool.not_eq_true', Bool.not_eq_true', ← Bool.not_eq_true,
    ← Bool.not_eq_true, hz, hn]
  omega

/-- Of flags that are not both set, exactly one of `ng`, `zr` and `pos` holds. -/
theorem exactly_one_of_ng_zr_pos : ∀ zr ng : Bool, (zr && ng) = false →
    (ng = true ∧ zr = false ∧ positiveSignal zr ng = false) ∨
      (ng = false ∧ zr = true ∧ positiveSignal zr ng = false) ∨
      (ng = false ∧ zr = false ∧ positiveSignal zr ng = true) := by decide

theorem jumpCondition_JMP : ∀ zr ng : Bool, jumpCondition Jump.JMP zr ng = true := by decide

theorem jumpCondition_JGE : ∀ zr ng : Bool, (zr && ng) = false → jumpCondition Jump.JGE zr ng = !ng := by
  decide

theorem jumpCondition_JNE : ∀ zr ng : Bool, (zr && ng) = false → jumpCondition Jump.JNE zr ng = !zr := by
  decide

/-- Settles O24: each flag's law, and for the jumps that no result is both zero and negative. -/
theorem flagsTellTheSignOfTheResult : Obligations.FlagsTellTheSignOfTheResult := by
  intro x y c
  have hexcl := alu_not_zr_and_ng x y c
  have hinc : (alu 0x7FFF#16 y 0b011111#6).out = 0x8000#16 := aluResult_x_add_one 0x7FFF#16 y
  have hincNg : (alu 0x7FFF#16 y 0b011111#6).ng = true := by
    rw [alu_ng, hinc]
    rfl
  exact ⟨zeroFlag_iff _, rfl, negativeFlag_iff_toInt _, zeroFlag_iff_toInt _, positiveSignal_iff_toInt _,
    exactly_one_of_ng_zr_pos _ _ hexcl, jumpCondition_JMP _ _, jumpCondition_JGE _ _ hexcl,
    jumpCondition_JNE _ _ hexcl, hinc, hincNg⟩

end Sys2Proof.Machine
end

section
/-! One old A in a whole cycle: memory is read and written at it, and a jump goes to it (R52, R145, R157 to R159). -/

namespace Sys2Proof.Machine

/-- Settles O26: the bits of `AM` load A and write memory, at the address that R160 takes from the old A. -/
theorem destinationAMWritesAtTheOldA : Obligations.DestinationAMWritesAtTheOldA :=
  stores_of_dest fun _ _ _ hA hD hM => ⟨hA, hD, wroteAtOldA_of_ram_eq hM⟩

/-- Settles O28: over the flags of one result both conditions are R107's formula for `JMP`. -/
theorem jmpIsAlwaysTaken : Obligations.JmpIsAlwaysTaken :=
  ⟨jumpsWhen_of_jumpCondition (by decide), jumpsWhen_of_jumpCondition (by decide)⟩

theorem jumpCondition_JGT : ∀ zr ng : Bool, jumpCondition Jump.JGT zr ng = positiveSignal zr ng := by decide

theorem afterCompute_pc (s : State) (f : CFields) (out : Word16) (zr ng : Bool) :
    (afterCompute s f out zr ng).pc = pcAfter s (jumpCondition f.jump zr ng) := rfl

theorem afterCompute_pc_of_JMP {f : CFields} (h : f.jump = Jump.JMP) (s : State) (out : Word16) (zr ng : Bool) :
    (afterCompute s f out zr ng).pc = if resetPin s then 0#15 else s.regA.extractLsb' 0 15 := by
  rw [afterCompute_pc, h, jumpCondition_JMP]
  rfl

/-- A form that stores leaves the result at the old A (R51). -/
theorem read_afterCompute_of_dM {f : CFields} (h : f.dest.dM = true) (s : State) (out : Word16) (zr ng : Bool) :
    Memory.read (afterCompute s f out zr ng).ram (s.regA.extractLsb' 0 15) = out := by
  have hram : (afterCompute s f out zr ng).ram = Memory.write s.ram (s.regA.extractLsb' 0 15) out := if_pos h
  rw [hram, read_write_same]

theorem exec_of_performs {mk : CFields → Instr} {a : Bool} {c : BitVec 6} {fn : Word16 → Word16 → Word16}
    (h : Performs mk a c fn) (f : CFields) (s : State) :
    exec (mk f) s =
      .next (afterCompute s f (fn s.regD (secondOperand s a))
        (decide (fn s.regD (secondOperand s a) = 0#16)) ((fn s.regD (secondOperand s a)).getLsbD 15)) := by
  obtain ⟨-, -, hexec⟩ := h f s
  exact hexec

/-- The low 15 bits of a word are its value modulo 2^15. -/
theorem extractLsb'_eq_ofNat_mod (v : Word16) : v.extractLsb' 0 15 = BitVec.ofNat 15 (v.toNat % 32768) := by
  apply BitVec.eq_of_toNat_eq
  simp

/-- Settles O29: R160 reads the target from the state before the cycle, whatever the cycle loads into A. -/
theorem jumpTargetIsTheOldA : Obligations.JumpTargetIsTheOldA := by
  constructor
  · intro a c ignored dD dM s
    refine ⟨_, computeInstructionGeneralRule a c _ s, rfl, ?_⟩
    rw [afterCompute_pc_of_JMP rfl, extractLsb'_eq_ofNat_mod]
  · intro ignored s hA hreset
    refine ⟨_, exec_of_performs (performs_of_aluResult aluResult_y_add_one) _ s, ?pc, ?regA⟩
    case pc =>
      rw [afterCompute_pc_of_JMP rfl, hreset, hA]
      rfl
    case regA => exact congrArg (· + 1#16) hA

/-- Settles O30: the word read, the word written and the target are all at R160's old A; a result is positive iff `JGT`
is taken. -/
theorem jumpAndMemoryUseTheSameA : Obligations.JumpAndMemoryUseTheSameA := by
  constructor
  · intro c ignored dA dD s
    exact ⟨_, computeInstructionGeneralRule true c _ s, _, rfl, read_afterCompute_of_dM rfl _ _ _ _,
      afterCompute_pc_of_JMP rfl _ _ _ _⟩
  · intro ignored s
    refine ⟨_, exec_of_performs (performs_of_aluResult aluResult_y_sub_one) _ s, _, rfl,
      read_afterCompute_of_dM rfl _ _ _ _, ?_⟩
    rw [afterCompute_pc, jumpCondition_JGT, pcAfter]
    exact ite_congr rfl (fun _ => rfl) fun _ => if_congr (positiveSignal_iff_toInt _) rfl rfl

/-- Settles O31: the ALU's operand is the word before the edge, and the edge leaves the result in its place. -/
theorem readDuringWriteSeesTheOldWord : Obligations.ReadDuringWriteSeesTheOldWord :=
  ⟨fun c f s h => ⟨_, computeInstructionGeneralRule true c f s, read_afterCompute_of_dM h _ _ _ _⟩,
    fun _ _ s => ⟨_, exec_of_performs (performs_of_aluResult aluResult_y_add_one) _ s,
      read_afterCompute_of_dM rfl _ _ _ _⟩⟩

end Sys2Proof.Machine
end

section
/-! What a cycle reads: an instruction schedules the same writes in two states with the same operands, so what else
differs between them reaches nothing but itself (R53, R161, R241); and what a cycle leaves unchanged. -/

namespace Sys2Proof.Machine

/-- An instruction schedules the same writes in two states with the same D and the same second operand. -/
theorem exec_same_writes {i : Instr} {s s' : State} (hD : s'.regD = s.regD)
    (hY : ∀ a c f, formOf i = .c a c f → operandY s' a = operandY s a) :
    ∃ w, exec i s = .next (clockEdge s w) ∧ exec i s' = .next (clockEdge s' w) := by
  cases hform : formOf i with
  | a v =>
    rw [eq_aInstr_of_form hform]
    refine ⟨_, rfl, ?_⟩
    rw [← hD]
    rfl
  | c a c f =>
    rw [exec_of_compute_form hform, exec_of_compute_form hform]
    refine ⟨_, rfl, ?_⟩
    rw [compute, operandX, hD, hY a c f hform]
    rfl

/-- Memory after a cycle: the word that the cycle writes at `addressM`, if it writes, and every other word as it was. -/
theorem read_clockEdge_ram (s : State) (w : Writes) (x : Word15) :
    Memory.read (clockEdge s w).ram x =
      if w.writeM = true ∧ x = addressM s then w.outM else Memory.read s.ram x := by
  rw [clockEdge_ram]
  cases w.writeM with
  | false => simp
  | true => simp [read_write]

/-- Settles O32: both memories give the same second operand, so both get the same write, at A. -/
theorem onlyTheWordAtAIsRead : Obligations.OnlyTheWordAtAIsRead := by
  intro i s m hread
  have hY : ∀ a, operandY { s with ram := m } a = operandY s a
    | false => rfl
    | true => hread
  obtain ⟨w, ht, ht'⟩ :=
    exec_same_writes (i := i) (s := s) (s' := { s with ram := m }) rfl fun a _ _ _ => hY a
  refine ⟨_, _, ht, ht', rfl, rfl, rfl, fun x => ?_⟩
  have haddr : addressM { s with ram := m } = addressM s := rfl
  rw [read_clockEdge_ram, read_clockEdge_ram, haddr]
  by_cases hx : x = addressM s
  · subst hx
    exact (if_congr Iff.rfl rfl hread).trans (if_pos rfl).symm
  · exact (if_neg fun h => hx h.2).trans (if_neg hx).symm

/-- A compute word has its a-bit at bit 12 (R74). -/
theorem aBit_of_formOf_decode {w : Word16} {a : Bool} {c : BitVec 6} {f : CFields}
    (h : formOf (decode w) = .c a c f) : (w.getLsbD 15 && w.getLsbD 12) = a := by
  rw [formOf_decode] at h
  cases h15 : w.getLsbD 15 with
  | false => simp [decodeForm_of_not_bit15 h15] at h
  | true =>
    rw [decodeForm_of_bit15 h15] at h
    cases h
    rfl

/-- Settles O33: without the a-bit the second operand is A. -/
theorem memoryIsUsedOnlyWithTheABit : Obligations.MemoryIsUsedOnlyWithTheABit := by
  intro w s m hbits
  have hY : ∀ a c f, formOf (decode w) = .c a c f → operandY { s with ram := m } a = operandY s a := by
    intro a c f hform
    obtain rfl : false = a := hbits.symm.trans (aBit_of_formOf_decode hform)
    rfl
  obtain ⟨_, ht, ht'⟩ := exec_same_writes (s := s) (s' := { s with ram := m }) rfl hY
  exact ⟨_, _, ht, ht', rfl, rfl, rfl⟩

/-- Settles O52: the reset bit is no operand, and of the clock edge only PC reads it. -/
theorem resetForcesOnlyThePc : Obligations.ResetForcesOnlyThePc := by
  intro i s rest
  obtain ⟨w, ht, hu⟩ := exec_same_writes (i := i) (s := { s with resetIn := true :: rest })
    (s' := { s with resetIn := false :: rest }) rfl fun _ _ _ _ => rfl
  exact ⟨_, _, ht, hu, rfl, rfl, rfl, rfl, rfl, rfl, rfl⟩

/-- Settles O48: the A-instruction's whole effect loads A, moves PC on and consumes a reset bit. -/
theorem aInstructionFrame : Obligations.AInstructionFrame := by
  intro v s t h
  rw [exec_aInstr] at h
  cases h
  exact ⟨rfl, rfl, fun _ => rfl⟩

/-- Settles O49: each field of `compute` by its own lemma. -/
theorem computeInstructionFrame : Obligations.ComputeInstructionFrame := by
  intro i a c f s t hform hexec
  rw [exec_of_compute_form hform] at hexec
  cases hexec
  refine ⟨fun h => ?regA, fun h => ?regD, compute_rom a c f s, compute_resetIn a c f s, fun x h => ?ram⟩
  case regA => simp [compute_regA, h]
  case regD => simp [compute_regD, h]
  case ram =>
    have hkept : ¬(f.dest.dM = true ∧ x = addressM s) := by
      rintro ⟨hM, hx⟩
      exact h.elim (Bool.eq_false_iff.mp · hM) (· hx)
    exact (read_clockEdge_ram s _ x).trans (if_neg hkept)

end Sys2Proof.Machine
end

section
/-! A run of the composed computer: its cycles chain, it never changes ROM, and it consumes the reset bits one by one
(R60, R114). -/

namespace Sys2Proof.Machine

theorem computerStep_eq_of_step {s t : State} (h : step s = .next t) : computerStep s = t := by
  rw [step_eq_computerStep] at h
  exact Host.Outcome.next.inj h

theorem computerStep_eq_clockEdge (s : State) : ∃ w, computerStep s = clockEdge s w := by
  obtain ⟨w, hw⟩ := exec_eq_clockEdge (decode (fetch s)) s
  exact ⟨w, computerStep_eq_of_step hw⟩

@[simp] theorem computerStep_rom (s : State) : (computerStep s).rom = s.rom := rfl

@[simp] theorem computerStep_resetIn (s : State) : (computerStep s).resetIn = s.resetIn.tail := rfl

@[simp] theorem datapathRun_zero (s : State) : datapathRun 0 s = s := rfl

theorem datapathRun_succ (n : Nat) (s : State) : datapathRun (n + 1) s = datapathRun n (computerStep s) := rfl

/-- A run of `m + n` cycles is a run of `m` and then a run of `n`. -/
theorem datapathRun_add (m n : Nat) (s : State) :
    datapathRun (m + n) s = datapathRun n (datapathRun m s) := by
  induction m generalizing s with
  | zero => rw [Nat.zero_add, datapathRun_zero]
  | succ m ih => rw [Nat.succ_add, datapathRun_succ, datapathRun_succ, ih]

/-- The last cycle of a run starts from the state that the cycles before it leave. -/
theorem datapathRun_succ_last (n : Nat) (s : State) :
    datapathRun (n + 1) s = computerStep (datapathRun n s) := datapathRun_add n 1 s

@[simp] theorem datapathRun_rom (n : Nat) (s : State) : (datapathRun n s).rom = s.rom := by
  induction n with
  | zero => rfl
  | succ n ih => rw [datapathRun_succ_last, computerStep_rom, ih]

@[simp] theorem datapathRun_resetIn (n : Nat) (s : State) :
    (datapathRun n s).resetIn = s.resetIn.drop n := by
  induction n with
  | zero => rfl
  | succ n ih => rw [datapathRun_succ_last, computerStep_resetIn, ih, List.tail_drop]

theorem eq_datapathRun_of_runCycles {n : Nat} {s t : State} (h : runCycles n s = .next t) :
    t = datapathRun n s := by
  rw [runCycles_eq_datapathRun] at h
  exact (Host.Outcome.next.inj h).symm

/-- Settles O46: no cycle of a run changes ROM, and a fetch reads nothing else but PC. -/
theorem storesNeverChangeFetchedInstructions : Obligations.StoresNeverChangeFetchedInstructions := by
  intro n s t h
  have hrom : t.rom = s.rom := by rw [eq_datapathRun_of_runCycles h, datapathRun_rom]
  exact ⟨hrom, fun p => congrArg (Memory.read · p) hrom⟩

end Sys2Proof.Machine
end

section
/-! The host's load of a program puts word `k` at ROM address `k` (R233). -/

namespace Sys2Proof.Machine

/-- Loading one more word writes it at the address after those of the words before it. -/
theorem romOf_concat (words : List Word16) (v : Word16) (h : words.length < Config.memoryWords) :
    romOf (words ++ [v]) = Memory.write (romOf words) (BitVec.ofNat 15 words.length) v := by
  have htake : words.take Config.memoryWords = words := List.take_of_length_le h.le
  have htake' : (words ++ [v]).take Config.memoryWords = words ++ [v] :=
    List.take_of_length_le (by simpa using h)
  rw [romOf, romOf, htake, htake', List.zipIdx_append, List.foldl_append]
  simp

/-- Word `p` of a program that fits into ROM is at address `p`. -/
theorem read_romOf {words : List Word16} {p : Word15} {w : Word16}
    (hlen : words.length ≤ Config.memoryWords) (h : words[p.toNat]? = some w) :
    Memory.read (romOf words) p = w := by
  induction words using List.reverseRecOn with
  | nil => simp at h
  | append_singleton words v ih =>
    have hfits : words.length < Config.memoryWords := by simpa using hlen
    have hnew : p = BitVec.ofNat 15 words.length ↔ p.toNat = words.length := by
      rw [← BitVec.toNat_inj, BitVec.toNat_ofNat, Nat.mod_eq_of_lt (show words.length < 2 ^ 15 from hfits)]
    rw [romOf_concat words v hfits, read_write]
    by_cases hp : p.toNat = words.length
    · rw [hp, List.getElem?_concat_length] at h
      rw [if_pos (hnew.mpr hp), Option.some.inj h]
    · have hold : p.toNat < words.length := by
        have hlt := (List.getElem?_eq_some_iff.mp h).1
        rw [List.length_append, List.length_singleton] at hlt
        omega
      rw [List.getElem?_append_left hold] at h
      rw [if_neg (mt hnew.mp hp), ih hfits.le h]

theorem romOf_take (words : List Word16) : romOf (words.take Config.memoryWords) = romOf words := by
  rw [romOf, romOf, List.take_take, Nat.min_self]

/-- Settles O47: an address names a word among the first 32768, which are the ones loaded. -/
theorem loadedProgramIsFetched : Obligations.LoadedProgramIsFetched := by
  intro s words p w h
  have hw : (words.take Config.memoryWords)[p.toNat]? = some w := by
    have hp : p.toNat < Config.memoryWords := p.isLt
    rw [List.getElem?_take_of_lt hp, h]
  have hread := read_romOf (List.length_take_le _ _) hw
  rw [romOf_take] at hread
  exact hread

end Sys2Proof.Machine
end

section
/-! Reset held for several cycles (R240, R245). -/

namespace Sys2Proof.Machine

theorem computerStep_pc_of_reset {s : State} (h : resetPin s = true) : (computerStep s).pc = 0#15 := if_pos h

/-- Without reset a cycle moves PC to the next address or to the old A (R108). -/
theorem computerStep_pc_of_not_reset {s : State} (h : resetPin s = false) :
    (computerStep s).pc = s.pc + 1#15 ∨ (computerStep s).pc = s.regA.extractLsb' 0 15 := by
  obtain ⟨w, hw⟩ := computerStep_eq_clockEdge s
  rw [hw, clockEdge_pc, h]
  cases w.jump with
  | false => exact .inl rfl
  | true => exact .inr rfl

/-- After `k` of `n` cycles with reset held, its other `n - k` bits are still to come. -/
theorem datapathRun_resetIn_of_held {n k : Nat} {s : State} {rest : List Bool} (hk : k ≤ n)
    (hs : s.resetIn = List.replicate n true ++ rest) :
    (datapathRun k s).resetIn = List.replicate (n - k) true ++ rest := by
  rw [datapathRun_resetIn, hs, List.drop_append_of_le_length (by rwa [List.length_replicate]),
    List.drop_replicate]

/-- Settles O53: after `k` cycles of the held reset its bit is still set, so the next cycle ends with PC 0. -/
theorem resetHeldExecutesRomZero : Obligations.ResetHeldExecutesRomZero := by
  intro n s rest hs
  refine ⟨rfl, fun k hk => ?_⟩
  have hpin : resetPin (datapathRun k s) = true := by
    rw [resetPin, datapathRun_resetIn_of_held (Nat.le_succ_of_le hk) hs, Nat.succ_sub hk]
    rfl
  have hpc : (datapathRun (k + 1) s).pc = 0#15 := by
    rw [datapathRun_succ_last, computerStep_pc_of_reset hpin]
  have hbits : (datapathRun (k + 1) s).resetIn = List.replicate (n - k) true ++ rest := by
    rw [datapathRun_resetIn_of_held (Nat.succ_le_succ hk) hs, Nat.succ_sub_succ]
  refine ⟨_, runCycles_eq_datapathRun (k + 1) s, hpc, hbits, ?executes, ?released⟩
  case executes => rw [step, fetch, hpc, datapathRun_rom]
  case released =>
    rintro rfl hrest
    have hpin' : resetPin (datapathRun (k + 1) s) = false := by
      rw [resetPin, hbits, Nat.sub_self]
      exact hrest
    have hnext := computerStep_pc_of_not_reset hpin'
    rw [hpc] at hnext
    exact ⟨_, step_eq_computerStep _, hnext⟩

end Sys2Proof.Machine
end

section
/-! From a terminal loop the state repeats: the label's instruction loads A with the label and the next one jumps to
it (R229). -/

namespace Sys2Proof.Machine

/-- A cycle on the word of a literal loads A with it (R130). -/
theorem computerStep_of_fetch_zext16 {s : State} {v : Word15} (hfetch : fetch s = zext16 v)
    (hreset : resetPin s = false) :
    computerStep s = { s with regA := zext16 v, pc := s.pc + 1#15, resetIn := s.resetIn.tail } := by
  apply computerStep_eq_of_step
  rw [step, hfetch, decode_zext16, exec_aInstr, hreset]
  rfl

/-- A jump `JMP` without a dest moves PC and leaves the registers and memory alone, whatever the result. -/
theorem afterCompute_of_none_JMP (s : State) (ignored : BitVec 2) (out : Word16) (zr ng : Bool) :
    afterCompute s ⟨ignored, Dest.none, Jump.JMP⟩ out zr ng =
      { s with pc := pcAfter s true, resetIn := s.resetIn.tail } :=
  congrArg (fun jump => { s with pc := pcAfter s jump, resetIn := s.resetIn.tail }) (jumpCondition_JMP zr ng)

/-- A cycle on the word of such a jump goes to the old A (R140, R157). -/
theorem computerStep_of_fetch_jump {s : State} {a : Bool} {c : BitVec 6} {ignored : BitVec 2}
    (hfetch : fetch s = cWord a c ⟨ignored, Dest.none, Jump.JMP⟩) (hreset : resetPin s = false) :
    computerStep s = { s with pc := s.regA.extractLsb' 0 15, resetIn := s.resetIn.tail } := by
  apply computerStep_eq_of_step
  rw [step, hfetch, computeInstructionGeneralRule, afterCompute_of_none_JMP, pcAfter, hreset]
  rfl

/-- Once every coming reset bit is 0, the pin stays released. -/
theorem resetPin_datapathRun_of_released {s : State} (h : ∀ b ∈ s.resetIn, b = false) (n : Nat) :
    resetPin (datapathRun n s) = false := by
  rw [resetPin, datapathRun_resetIn]
  cases hbits : s.resetIn.drop n with
  | nil => rfl
  | cons b rest => exact h b (List.mem_of_mem_drop (hbits ▸ List.mem_cons_self))

/-- Settles O54, by induction on the cycles: PC is at the label's successor after an even number of further cycles, and
there the loop jumps, and at the label after an odd number. -/
theorem terminalLoopRepeats : Obligations.TerminalLoopRepeats := by
  rintro s l ⟨hpc, hlabel, ⟨a, c, ignored, hjump⟩, hreset⟩ n
  refine ⟨_, runCycles_eq_datapathRun (n + 1) s, ?_⟩
  induction n with
  | zero =>
    have hfetch : fetch s = zext16 l := by
      rw [fetch, hpc]
      exact hlabel
    rw [datapathRun_succ, computerStep_of_fetch_zext16 hfetch (resetPin_datapathRun_of_released hreset 0), hpc]
    exact ⟨rfl, rfl, rfl, rfl⟩
  | succ n ih =>
    obtain ⟨hA, hD, hram, hpc'⟩ := ih
    have hpin := resetPin_datapathRun_of_released hreset (n + 1)
    have hfetch : fetch (datapathRun (n + 1) s) = Memory.read s.rom (if n % 2 = 0 then l + 1#15 else l) := by
      rw [fetch, datapathRun_rom, hpc']
    rw [datapathRun_succ_last]
    rcases Nat.mod_two_eq_zero_or_one n with hn | hn
    · rw [if_pos hn, hjump] at hfetch
      rw [computerStep_of_fetch_jump hfetch hpin, if_neg (by omega), hA]
      exact ⟨rfl, hD, hram, low15_zext16 l⟩
    · rw [if_neg (by omega)] at hfetch hpc'
      rw [computerStep_of_fetch_zext16 (hfetch.trans hlabel) hpin, if_pos (by omega), hpc']
      exact ⟨rfl, hD, hram, rfl⟩

end Sys2Proof.Machine
end

section
/-! The search for the end of a run (R229): it tests each state for the four conditions, and so finds the first. -/

namespace Sys2Proof.Machine

theorem eq_cWord_of_decodeForm {w : Word16} {a : Bool} {c : BitVec 6} {f : CFields}
    (h : decodeForm w = .c a c f) : w = cWord a c f := by
  rw [← encodeForm_c, ← h, encodeForm_decodeForm]

/-- The test of a state holds iff the state meets R229's conditions for some label, which is then its PC. -/
theorem inTerminalLoop_iff (s : State) : inTerminalLoop s = true ↔ ∃ l, AtTerminalLoop s l := by
  constructor
  · intro h
    simp only [inTerminalLoop, Bool.and_eq_true, beq_iff_eq, List.all_eq_true, Bool.not_eq_true'] at h
    obtain ⟨⟨hlabel, hjump⟩, hreset⟩ := h
    cases hform : decodeForm (Memory.read s.rom (s.pc + 1#15)) with
    | a v => simp [hform] at hjump
    | c a c f =>
      obtain ⟨ignored, dest, jump⟩ := f
      simp only [hform, Bool.and_eq_true, beq_iff_eq] at hjump
      obtain ⟨rfl, rfl⟩ := hjump
      exact ⟨s.pc, rfl, hlabel, ⟨a, c, ignored, eq_cWord_of_decodeForm hform⟩, hreset⟩
  · rintro ⟨l, rfl, hlabel, ⟨a, c, ignored, hjump⟩, hreset⟩
    simp only [inTerminalLoop, fetch, hlabel, hjump, decodeForm_cWord]
    simpa [zext16] using hreset

theorem not_inTerminalLoop_iff (s : State) : inTerminalLoop s = false ↔ ∀ l, ¬ AtTerminalLoop s l := by
  rw [← Bool.not_eq_true, inTerminalLoop_iff, not_exists]

/-- The state after `n` cycles is the first of the run that passes the test for R229's conditions. -/
def FirstLoopCycle (s : State) (n : Nat) : Prop :=
  inTerminalLoop (datapathRun n s) = true ∧ ∀ k < n, inTerminalLoop (datapathRun k s) = false

theorem runEnds_iff (s : State) (n : Nat) (t : State) :
    RunEnds s n t ↔ t = datapathRun n s ∧ FirstLoopCycle s n := by
  simp only [RunEnds, runCycles_eq_datapathRun, FirstLoopCycle, ← inTerminalLoop_iff, ← not_inTerminalLoop_iff,
    Host.Outcome.next.injEq, forall_eq']
  constructor
  · rintro ⟨⟨rfl, hloop⟩, hfirst⟩
    exact ⟨rfl, hloop, hfirst⟩
  · rintro ⟨rfl, hloop, hfirst⟩
    exact ⟨⟨rfl, hloop⟩, hfirst⟩

theorem exists_runEnds_iff (s : State) (n : Nat) : (∃ t, RunEnds s n t) ↔ FirstLoopCycle s n := by
  simp [runEnds_iff]

theorem firstLoopCycle_zero (s : State) : FirstLoopCycle s 0 ↔ inTerminalLoop s = true := by
  simp [FirstLoopCycle]

/-- A run whose start is not in the loop reaches it one cycle after the run from its next state does. -/
theorem firstLoopCycle_succ (s : State) (n : Nat) :
    FirstLoopCycle s (n + 1) ↔ inTerminalLoop s = false ∧ FirstLoopCycle (computerStep s) n := by
  simp only [FirstLoopCycle, Nat.forall_lt_succ_left, datapathRun_succ, datapathRun_zero]
  exact and_left_comm

/-- No run reaches its first loop state at two cycles. -/
theorem firstLoopCycle_unique {s : State} {m n : Nat} (hm : FirstLoopCycle s m) (hn : FirstLoopCycle s n) :
    m = n := by
  obtain ⟨hm, hm'⟩ := hm
  obtain ⟨hn, hn'⟩ := hn
  rcases Nat.lt_trichotomy m n with h | h | h
  · exact absurd hm (Bool.eq_false_iff.mp (hn' m h))
  · exact h
  · exact absurd hn (Bool.eq_false_iff.mp (hm' n h))

theorem endCycle_eq_some_iff (bound n : Nat) (s : State) :
    endCycle bound s = some n ↔ n < bound ∧ FirstLoopCycle s n := by
  induction bound generalizing n s with
  | zero => simp
  | succ bound ih =>
    cases h : inTerminalLoop s with
    | true =>
      rw [endCycle_of_inTerminalLoop bound h]
      cases n with
      | zero => simp [firstLoopCycle_zero, h]
      | succ n => simp [firstLoopCycle_succ, h]
    | false =>
      rw [endCycle_of_not_inTerminalLoop bound h]
      cases n with
      | zero => simp [firstLoopCycle_zero, h]
      | succ n => simp [firstLoopCycle_succ, h, ih]

/-- Settles O56, by induction on the bound: the search tests the start and then the run from the next state. -/
theorem endCycleIsTheFirstTerminalLoop : Obligations.EndCycleIsTheFirstTerminalLoop := by
  intro bound n s
  rw [exists_runEnds_iff, endCycle_eq_some_iff]

/-- Settles O57: a run has one first loop cycle, and the run after it repeats. -/
theorem endedRunHasOneEndAndRepeats : Obligations.EndedRunHasOneEndAndRepeats := by
  intro s t n hend
  obtain ⟨rfl, hfirst⟩ := (runEnds_iff s n t).mp hend
  constructor
  · intro m u hend'
    obtain ⟨rfl, hfirst'⟩ := (runEnds_iff s m u).mp hend'
    obtain rfl := firstLoopCycle_unique hfirst' hfirst
    exact ⟨rfl, rfl⟩
  · intro k
    obtain ⟨hloop, -⟩ := hfirst
    obtain ⟨l, hl⟩ := (inTerminalLoop_iff _).mp hloop
    obtain ⟨u, hrun, hu⟩ := terminalLoopRepeats _ l hl k
    obtain ⟨rfl, -⟩ := hl
    refine ⟨u, ?_, hu⟩
    rw [runCycles_eq_datapathRun] at hrun ⊢
    rw [Nat.add_assoc, datapathRun_add, hrun]

end Sys2Proof.Machine
end

section
/-! The primitives by their contracts (R40 to R43). -/

namespace Sys2Proof.Machine

theorem getElem_bitwise1 (g : Bool → Bool) (a : Word16) {i : Nat} (hi : i < 16) :
    (bitwise1 g a)[i] = g a[i] := by
  rw [bitwise1, BitVec.getElem_ofFnLE, BitVec.getLsbD_eq_getElem hi]

theorem getElem_bitwise2 (g : Bool → Bool → Bool) (a b : Word16) {i : Nat} (hi : i < 16) :
    (bitwise2 g a b)[i] = g a[i] b[i] := by
  rw [bitwise2, BitVec.getElem_ofFnLE, BitVec.getLsbD_eq_getElem hi, BitVec.getLsbD_eq_getElem hi]

theorem gateNot16_eq (a : Word16) : gateNot16 a = ~~~a := by
  apply BitVec.eq_of_getElem_eq
  intro i hi
  rw [gateNot16, getElem_bitwise1, BitVec.getElem_not, gateNot]

theorem gateAnd16_eq (a b : Word16) : gateAnd16 a b = a &&& b := by
  apply BitVec.eq_of_getElem_eq
  intro i hi
  rw [gateAnd16, getElem_bitwise2, BitVec.getElem_and, gateAnd]

theorem gateOr16_eq (a b : Word16) : gateOr16 a b = a ||| b := by
  apply BitVec.eq_of_getElem_eq
  intro i hi
  rw [gateOr16, getElem_bitwise2, BitVec.getElem_or, gateOr]

theorem gateMux16_eq (a b : Word16) (sel : Bool) : gateMux16 a b sel = if sel = false then a else b := by
  apply BitVec.eq_of_getElem_eq
  intro i hi
  rw [gateMux16, getElem_bitwise2]
  cases sel <;> rfl

/-- A selector and an index are one number iff they are one element of `Fin 8`. -/
theorem val_eq_toNat_iff (sel : BitVec 3) (i : Fin 8) : i.val = sel.toNat ↔ i = sel.toFin := Fin.ext_iff.symm

theorem dMux8Way_eq (inp : Bool) (sel : BitVec 3) (i : Fin 8) :
    dMux8Way inp sel i = if i.val = sel.toNat then inp else false :=
  if_congr (val_eq_toNat_iff sel i).symm rfl rfl

/-- Settles O37: the 1-bit gates by their truth tables, the 16-bit gates bit by bit, the selectors by their index. -/
theorem primitivesMeetTheirContracts : Obligations.PrimitivesMeetTheirContracts := by
  refine ⟨by decide, fun a b sel => ⟨gateNot16_eq a, gateAnd16_eq a b, gateOr16_eq a b, gateMux16_eq a b sel⟩,
    ?mux, dMux8Way_eq, fun _ _ _ _ => rfl⟩
  case mux =>
    intro inputs sel i h
    obtain rfl := (val_eq_toNat_iff sel i).mp h
    rfl

end Sys2Proof.Machine
end

section
/-! The CPU's signals and ports over any ALU (R101 to R111): each law is read off the bits of the instruction word. -/

namespace Sys2Proof.Machine

section
variable (f : AluFn) (s : CpuRegs) (w inM : Word16) (reset : Bool)

/-- The ALU's answer in a CPU cycle (R104, R105). -/
def cpuAlu : AluOut := f s.regD (if w.getLsbD 12 then inM else s.regA) (w.extractLsb' 6 6)

theorem loadA_decoder : loadA (decoder w) = (!w.getLsbD 15 || (w.getLsbD 15 && w.getLsbD 5)) := rfl

theorem aInput_decoder (out : Word16) :
    aInput (decoder w) w out = if w.getLsbD 15 then out else (w.extractLsb' 0 15).setWidth 16 := rfl

theorem loadD_decoder : loadD (decoder w) = (w.getLsbD 15 && w.getLsbD 4) := rfl

theorem writeMSignal_decoder : writeMSignal (decoder w) = (w.getLsbD 15 && w.getLsbD 3) := rfl

/-- The decoder's jump signal is R107's formula, its terms in the order that R115 writes them in. -/
theorem jumpSignal_decoder (zr ng : Bool) : jumpSignal (decoder w) zr ng =
    (w.getLsbD 15 && ((w.getLsbD 0 && (!zr && !ng)) || (w.getLsbD 1 && zr) || (w.getLsbD 2 && ng))) := by
  have hrev : ∀ p q r : Bool, (p || q || r) = (r || q || p) := by decide
  exact congrArg (w.getLsbD 15 && ·) (hrev _ _ _)

theorem cpuStep_outM : (cpuStep f s w inM reset).outM = (cpuAlu f s w inM).out := rfl

theorem cpuStep_writeM : (cpuStep f s w inM reset).writeM = writeMSignal (decoder w) := rfl

theorem cpuStep_regA : (cpuStep f s w inM reset).after.regA =
    if loadA (decoder w) then aInput (decoder w) w (cpuAlu f s w inM).out else s.regA := rfl

theorem cpuStep_regD : (cpuStep f s w inM reset).after.regD =
    if loadD (decoder w) then (cpuAlu f s w inM).out else s.regD := rfl

theorem cpuStep_pc : (cpuStep f s w inM reset).after.pc =
    nextPc reset (jumpSignal (decoder w) (cpuAlu f s w inM).zr (cpuAlu f s w inM).ng) s.regA s.pc := rfl

end

/-- Settles O35: the signals of each row, from bit 15 and dA. -/
theorem registerFileControlTable : Obligations.RegisterFileControlTable := by
  intro w out
  simp only [loadA_decoder, aInput_decoder, loadD_decoder, writeMSignal_decoder]
  refine ⟨fun h15 => ?address, fun h15 h5 => ?keepsA, fun h15 h5 => ?loadsA⟩
  case address =>
    rw [h15]
    exact ⟨rfl, rfl, rfl, rfl⟩
  case keepsA =>
    rw [h15, h5]
    exact ⟨rfl, rfl, rfl⟩
  case loadsA =>
    rw [h15, h5]
    exact ⟨rfl, rfl, rfl, rfl⟩

/-- Settles O36: the ports are wired to the held registers and to the ALU. -/
theorem portsShowHeldValues : Obligations.PortsShowHeldValues := by
  intro f s w inM reset
  refine ⟨rfl, rfl, ?writeM, fun _ => cpuStep_outM f s w inM reset⟩
  case writeM => rw [cpuStep_writeM, writeMSignal_decoder, Bool.and_eq_true]

/-- Settles O34, law by law: the signals of the word's form and dest bits, and of reset for PC; reset enters nothing
else. -/
theorem datapathLawsForEveryAlu : Obligations.DatapathLawsForEveryAlu := by
  intro f s w inM reset
  refine ⟨fun h15 => ⟨?literal, ?noWrite⟩, fun h15 => ⟨?writeM, cpuStep_outM f s w inM reset⟩,
    jumpSignal_decoder w _ _, fun hreset => ?pc, fun hreset => ?pcOnReset, ⟨rfl, rfl, rfl, rfl, fun _ => rfl⟩,
    fun h15 => ⟨fun h4 => ?keepsD, fun h5 => ?keepsA⟩⟩
  case literal =>
    rw [cpuStep_regA, loadA_decoder, aInput_decoder, h15]
    rfl
  case noWrite => rw [cpuStep_writeM, writeMSignal_decoder, h15, Bool.false_and]
  case writeM => rw [cpuStep_writeM, writeMSignal_decoder, h15, Bool.true_and]
  case pc =>
    rw [cpuStep_pc, jumpSignal_decoder, hreset]
    rfl
  case pcOnReset =>
    rw [cpuStep_pc, hreset]
    rfl
  case keepsD =>
    rw [cpuStep_regD, loadD_decoder, h4, Bool.and_false]
    rfl
  case keepsA =>
    rw [cpuStep_regA, loadA_decoder, h15, h5]
    rfl

end Sys2Proof.Machine
end

section
/-! The load signals of a block's leaves (R46): of a node's children only the addressed one sees the node's load. -/

namespace Sys2Proof.Machine

/-- One of a node's children sees the node's load, and none sees a load of 0 (R42). -/
theorem sum_dMux8Way : ∀ (load : Bool) (hi : BitVec 3),
    ((List.finRange 8).map fun i => if dMux8Way load hi i then 1 else 0).sum = if load then 1 else 0 := by
  decide

theorem length_leafLoads (L : Nat) (load : Bool) (x : BitVec (3 * L)) :
    (leafLoads L load x).length = 8 ^ L := by
  induction L generalizing load with
  | zero => rfl
  | succ L ih =>
    simp only [leafLoads, List.length_flatMap, ih, List.map_const', List.length_finRange, List.sum_replicate,
      smul_eq_mul, Nat.pow_succ']

theorem count_leafLoads (L : Nat) (load : Bool) (x : BitVec (3 * L)) :
    (leafLoads L load x).count true = if load then 1 else 0 := by
  induction L generalizing load with
  | zero => cases load <;> rfl
  | succ L ih =>
    rw [leafLoads, List.count_flatMap, ← sum_dMux8Way load (addressHi L x)]
    exact congrArg List.sum (List.map_congr_left fun i _ => ih _ _)

/-- Settles O39: a node's children by their index, a block's leaves by induction on the levels. -/
theorem atMostOneLeafIsLoaded : Obligations.AtMostOneLeafIsLoaded := by
  refine ⟨fun load hi i => ⟨fun h => ?addressed, fun h => ?other⟩, fun L load x => ?block⟩
  case addressed => rw [dMux8Way_eq, if_pos h]
  case other => rw [dMux8Way_eq, if_neg h]
  case block => exact ⟨length_leafLoads L load x, count_leafLoads L load x⟩

end Sys2Proof.Machine
end

section
/-! The block as a flat array (R47): the leaves of a node are those of its children in order, and an address is its
child's number and its place in that child, in base 8. -/

namespace Sys2Proof.Machine

theorem toNat_lt_eight_pow {L : Nat} (x : BitVec (3 * L)) : x.toNat < 8 ^ L := by
  have hx := x.isLt
  rwa [pow_mul] at hx

theorem addressHi_toNat_eq_div (L : Nat) (x : BitVec (3 * (L + 1))) :
    (addressHi L x).toNat = x.toNat / 8 ^ L := by
  rw [addressHi_toNat, pow_mul]
  rfl

theorem addressLo_toNat_eq_mod (L : Nat) (x : BitVec (3 * (L + 1))) :
    (addressLo L x).toNat = x.toNat % 8 ^ L := by
  rw [addressLo_toNat, pow_mul]
  rfl

/-- A flat address is the words of the children before its own, and its place in its own. -/
theorem toNat_eq_addressHi_addressLo (L : Nat) (x : BitVec (3 * (L + 1))) :
    x.toNat = 8 ^ L * (addressHi L x).toNat + (addressLo L x).toNat := by
  rw [addressHi_toNat_eq_div, addressLo_toNat_eq_mod, Nat.div_add_mod]

/-- In the concatenation of lists of one length `n`, place `n * q + r` is place `r` of list `q`. -/
theorem getElem?_flatMap_of_length {α β : Type} {g : α → List β} {n : Nat} (hg : ∀ a, (g a).length = n)
    {l : List α} {q r : Nat} {a : α} (hr : r < n) (ha : l[q]? = some a) :
    (l.flatMap g)[n * q + r]? = (g a)[r]? := by
  induction l generalizing q with
  | nil => simp at ha
  | cons b l ih =>
    rw [List.flatMap_cons]
    cases q with
    | zero =>
      obtain rfl : b = a := by simpa using ha
      rw [Nat.mul_zero, Nat.zero_add, List.getElem?_append_left (by rwa [hg])]
    | succ q =>
      have hplace : n * (q + 1) + r = (g b).length + (n * q + r) := by
        rw [hg]
        ring
      rw [hplace, List.getElem?_append_right (Nat.le_add_right _ _), Nat.add_sub_cancel_left]
      exact ih (by simpa using ha)

/-- The word at an address is the leaf whose number the address is. -/
theorem getElem?_blockLeaves (L : Nat) (b : Block L) (x : BitVec (3 * L)) :
    (blockLeaves L b)[x.toNat]? = some (blockOut L b x) := by
  induction L with
  | zero =>
    obtain rfl : x = 0#0 := BitVec.eq_of_zero_length rfl
    rfl
  | succ L ih =>
    have hchild : (List.finRange 8)[(addressHi L x).toNat]? = some (addressHi L x).toFin :=
      List.getElem?_eq_some_iff.mpr ⟨(addressHi L x).isLt, List.getElem_finRange _⟩
    rw [toNat_eq_addressHi_addressLo, blockLeaves,
      getElem?_flatMap_of_length (fun i => length_blockLeaves L (b i)) (toNat_lt_eight_pow _) hchild, ih,
      blockOut_succ]

/-- A block's clock edge sets its leaves as a list is set. -/
theorem blockLeaves_blockEdge (L : Nat) (b : Block L) (inp : Word16) (load : Bool) (x : BitVec (3 * L)) :
    blockLeaves L (blockEdge L b inp load x) =
      if load = true then (blockLeaves L b).set x.toNat inp else blockLeaves L b := by
  apply List.ext_getElem
  · split <;> simp only [List.length_set, length_blockLeaves]
  intro k hk _
  rw [length_blockLeaves] at hk
  obtain ⟨y, rfl⟩ : ∃ y : BitVec (3 * L), y.toNat = k := by
    refine ⟨BitVec.ofNat _ k, ?_⟩
    rw [BitVec.toNat_ofNat, pow_mul]
    exact Nat.mod_eq_of_lt hk
  apply Option.some.inj
  rw [← List.getElem?_eq_getElem, ← List.getElem?_eq_getElem, getElem?_blockLeaves, blockOut_blockEdge]
  cases load with
  | false => simp [getElem?_blockLeaves]
  | true =>
    by_cases hy : y = x
    · subst hy
      simp [length_blockLeaves, toNat_lt_eight_pow]
    · have hne : x.toNat ≠ y.toNat := fun h => hy (BitVec.eq_of_toNat_eq h.symm)
      simp [hy, List.getElem?_set_ne hne, getElem?_blockLeaves]

/-- The path of an address leads to the leaf of its word. -/
theorem leafAt_childPath (L : Nat) (b : Block L) (x : BitVec (3 * L)) :
    leafAt L b (childPath L x.toNat) = some (blockOut L b x) := by
  induction L with
  | zero => rfl
  | succ L ih =>
    have hchild : (addressHi L x).toNat < 8 := (addressHi L x).isLt
    rw [childPath, ← addressHi_toNat_eq_div, ← addressLo_toNat_eq_mod, leafAt, dif_pos hchild, ih]
    rfl

/-- The lower digits of a number in base 8 are those of its remainder. -/
theorem mod_pow_div_pow_mod {j L : Nat} (h : j < L) (n : Nat) : n % 8 ^ L / 8 ^ j % 8 = n / 8 ^ j % 8 := by
  obtain ⟨d, rfl⟩ := Nat.exists_eq_add_of_lt h
  rw [Nat.add_assoc, Nat.pow_add, Nat.mod_mul_right_div_self, Nat.mod_mod_of_dvd _ (dvd_pow_self 8 d.succ_ne_zero)]

/-- The path to a leaf is its number's digits in base 8, the most significant first. -/
theorem childPath_eq_digits {L n : Nat} (h : n < 8 ^ L) :
    childPath L n = (List.range L).reverse.map (fun j => n / 8 ^ j % 8) := by
  induction L generalizing n with
  | zero => rfl
  | succ L ih =>
    have htop : n / 8 ^ L = n / 8 ^ L % 8 := (Nat.mod_eq_of_lt (Nat.div_lt_of_lt_mul h)).symm
    have hrest : childPath L (n % 8 ^ L) = (List.range L).reverse.map (fun j => n / 8 ^ j % 8) := by
      rw [ih (Nat.mod_lt _ (Nat.pow_pos (by decide)))]
      refine List.map_congr_left fun j hj => mod_pow_div_pow_mod ?_ n
      simpa using hj
    rw [childPath, hrest, List.range_succ, List.reverse_concat, List.map_cons, ← htop]

/-- Settles O40: the leaves and the path by induction on the levels, the edge by the law of read after write. -/
theorem blockIsAFlatArray : Obligations.BlockIsAFlatArray := fun L b inp load x =>
  ⟨getElem?_blockLeaves L b x, blockLeaves_blockEdge L b inp load x, leafAt_childPath L b x,
    childPath_eq_digits (toNat_lt_eight_pow x)⟩

/-- The word at address `X` of the block built from cells is cell `X`. -/
theorem blockOut_blockOf (cell : Nat → Word16) (L base : Nat) (x : BitVec (3 * L)) :
    blockOut L (blockOf cell L base) x = cell (base + x.toNat) := by
  induction L generalizing base with
  | zero =>
    obtain rfl : x = 0#0 := BitVec.eq_of_zero_length rfl
    rfl
  | succ L ih =>
    rw [blockOut_succ, blockOf, ih, toNat_eq_addressHi_addressLo L x, ← Nat.add_assoc, Nat.mul_comm (8 ^ L)]
    rfl

/-- Settles O43: the block whose cells are the words of memory. -/
theorem everyStateHasAWiredComputer : Obligations.EveryStateHasAWiredComputer := by
  intro s
  refine ⟨⟨cpuRegs s, blockOf (Memory.lookup s.ram) Config.memoryLevels 0⟩, rfl, fun x => ?_⟩
  rw [blockOut_blockOf, Nat.zero_add]
  rfl

end Sys2Proof.Machine
end

section
/-! The canonical form names each memory once: its list is read off its words, address by address (R55). -/

namespace Sys2Proof.Machine

/-- Below the addresses of a canonical list every word is the unlisted one. -/
theorem lookup_of_lt {lo k : Nat} {m : Memory} (h : Memory.wfFrom lo m = true) (hk : k < lo) :
    Memory.lookup m k = Config.unlistedWord := by
  induction m generalizing lo with
  | nil => rfl
  | cons cell m ih =>
    obtain ⟨hlo, -, -, hm⟩ := (wfFrom_cons lo cell m).mp h
    rw [lookup_cons, if_neg (by omega), ih hm (by omega)]

/-- The first cell of a canonical list holds a listed word, and no other cell is at its address or below. -/
theorem not_lookup_alike_of_lt {lo lo' : Nat} {cell : Nat × Word16} {m m' : Memory}
    (h : Memory.wfFrom lo (cell :: m) = true) (h' : Memory.wfFrom lo' m' = true) (hlt : cell.1 < lo') :
    Memory.lookup (cell :: m) cell.1 ≠ Memory.lookup m' cell.1 := by
  obtain ⟨-, -, hlisted, -⟩ := (wfFrom_cons lo cell m).mp h
  rwa [lookup_cons, if_pos rfl, lookup_of_lt h' hlt]

/-- By induction on one list: the other has the same first cell, since the lower of two first cells would be read in
one list only. -/
theorem eq_of_lookup_eq {lo : Nat} {m m' : Memory} (h : Memory.wfFrom lo m = true)
    (h' : Memory.wfFrom lo m' = true)
    (hread : ∀ k < Config.memoryWords, Memory.lookup m k = Memory.lookup m' k) : m = m' := by
  induction m generalizing lo m' with
  | nil =>
    cases m' with
    | nil => rfl
    | cons cell' m' =>
      obtain ⟨-, hin', -, -⟩ := (wfFrom_cons lo cell' m').mp h'
      exact absurd (hread _ hin').symm (not_lookup_alike_of_lt h' (lo' := cell'.1 + 1) rfl (Nat.lt_succ_self _))
  | cons cell m ih =>
    obtain ⟨hlo, hin, hlisted, hm⟩ := (wfFrom_cons lo cell m).mp h
    cases m' with
    | nil => exact absurd (hread _ hin) (not_lookup_alike_of_lt h (lo' := cell.1 + 1) rfl (Nat.lt_succ_self _))
    | cons cell' m' =>
      obtain ⟨hlo', hin', hlisted', hm'⟩ := (wfFrom_cons lo cell' m').mp h'
      have hcons : Memory.wfFrom cell.1 (cell :: m) = true := (wfFrom_cons _ _ _).mpr ⟨le_rfl, hin, hlisted, hm⟩
      have hcons' : Memory.wfFrom cell'.1 (cell' :: m') = true :=
        (wfFrom_cons _ _ _).mpr ⟨le_rfl, hin', hlisted', hm'⟩
      have haddr : cell.1 = cell'.1 := by
        rcases Nat.lt_trichotomy cell.1 cell'.1 with hlt | heq | hlt
        · exact absurd (hread _ hin) (not_lookup_alike_of_lt h hcons' hlt)
        · exact heq
        · exact absurd (hread _ hin').symm (not_lookup_alike_of_lt h' hcons hlt)
      have hword : cell.2 = cell'.2 := by simpa [haddr] using hread _ hin
      obtain rfl : cell = cell' := Prod.ext haddr hword
      refine congrArg (cell :: ·) (ih hm hm' fun k hk => ?_)
      by_cases hcell : cell.1 = k
      · subst hcell
        rw [lookup_of_lt hm (Nat.lt_succ_self _), lookup_of_lt hm' (Nat.lt_succ_self _)]
      · simpa [hcell] using hread k hk

/-- Settles O44: every address below 32768 is some 15-bit address. -/
theorem memoriesThatReadAlikeAreEqual : Obligations.MemoriesThatReadAlikeAreEqual := by
  intro m m' h h' hread
  refine eq_of_lookup_eq h h' fun k hk => ?_
  have hk' : (BitVec.ofNat 15 k).toNat = k := Nat.mod_eq_of_lt hk
  rw [← hk']
  exact hread (BitVec.ofNat 15 k)

end Sys2Proof.Machine
end

section
/-! The assembler's compute words (R82): its table has documented comps only, and it sets bits 14..13. -/

namespace Sys2Proof.Machine

theorem mem_of_valueOf {α : Type} {table : List (String × α)} {name : String} {v : α}
    (h : valueOf table name = some v) : ∃ p ∈ table, p.2 = v := by
  obtain ⟨p, hp, rfl⟩ := Option.map_eq_some_iff.mp h
  exact ⟨p, List.mem_of_find?_eq_some hp, rfl⟩

theorem documentedComp_of_mem_compTable : ∀ p ∈ compTable, documentedComp p.2.1 p.2.2 = true := by decide

/-- What the assembler answers for a compute line: the word of a documented comp with bits 14..13 = `11`. -/
theorem assembleCompute_eq_some {dest comp jump : String} {w : Word16}
    (h : assembleCompute dest comp jump = some w) :
    ∃ a c d j, documentedComp a c = true ∧ w = cWord a c ⟨0b11#2, d, j⟩ := by
  simp only [assembleCompute, Option.bind_eq_bind, Option.bind_eq_some_iff] at h
  obtain ⟨d, -, c, hc, j, -, hw⟩ := h
  obtain ⟨p, hp, rfl⟩ := mem_of_valueOf hc
  refine ⟨_, _, d, j, documentedComp_of_mem_compTable p hp, ?_⟩
  rw [← encodeForm_c]
  exact (Option.some.inj hw).symm

/-- Bits 15..13 of a compute word are `1` and its ignored bits, which no lower field's weight reaches. -/
theorem extractLsb'_cWord (a : Bool) (c : BitVec 6) (d : Dest) (j : Jump) :
    (cWord a c ⟨0b11#2, d, j⟩).extractLsb' 13 3 = 0b111#3 := by
  apply extractLsb'_of_div_mod
  rw [cWord_toNat]
  have ha := a.toNat_lt
  have hdA := d.dA.toNat_lt
  have hdD := d.dD.toNat_lt
  have hdM := d.dM.toNat_lt
  have hj1 := j.j1.toNat_lt
  have hj2 := j.j2.toNat_lt
  have hj3 := j.j3.toNat_lt
  simp only [BitVec.reduceToNat]
  omega

/-- Settles O55: the word decodes to an instruction of the documented comp that it was built from. -/
theorem assemblerEmitsCanonicalWords : Obligations.AssemblerEmitsCanonicalWords := by
  intro dest comp jump w h
  obtain ⟨a, c, d, j, hcomp, rfl⟩ := assembleCompute_eq_some h
  refine ⟨extractLsb'_cWord a c d j, ?_⟩
  rw [Instr.canonical, formOf_decode, decodeForm_cWord]
  simpa using hcomp

end Sys2Proof.Machine
end
